-- ==== Sys2Proof/Word.lean ====
section
/-! DEFINITION. The word types of the machine: bit vectors of the widths that `00_scope.md` rule R11 names,
and register selectors. Only the types and the plainest arithmetic stand here. -/

namespace Sys2Proof

/-- A byte: the smallest addressable unit (`20_memory.md` rule R200). -/
abbrev Byte := BitVec 8

/-- A 16-bit value: a `.W` operand (`00_scope.md` rule R11). -/
abbrev Half := BitVec 16

/-- A 32-bit value: a `.L` operand and a general register (`10_state.md` rule R100). -/
abbrev Long := BitVec 32

/-- An address: 16 bits, so that address arithmetic wraps modulo 65536 (`20_memory.md` rule R201). -/
abbrev Addr := BitVec 16

/-- A 4-bit register selector of a `.B` or `.W` operand (`10_state.md` rule R101): bits 2..0 pick the register,
bit 3 picks the half or the byte of it. -/
abbrev Sel := BitVec 4

/-- The nibble that names a 32-bit register. Its bit 3 is fixed at 0 in every encoding (`10_state.md` rule R104,
`30_encoding.md` rule R306): `Instr.wellFormed` checks that. -/
abbrev ErSel := BitVec 4

/-- The high nibble of a byte: aH, bH or cH of `30_encoding.md` rule R301. -/
def hiNib (b : Byte) : BitVec 4 := b.extractLsb' 4 4

/-- The low nibble of a byte: aL, bL or cL of `30_encoding.md` rule R301. -/
def loNib (b : Byte) : BitVec 4 := b.extractLsb' 0 4

end Sys2Proof
end

