-- ==== Sys2Proof/Config.lean ====
section
/-! DEFINITION. What an instantiation of the core fixes. `Config` is the record of the OPEN parameters of
`92_eei_decisions.md` ("Parameters"), plain data, one value each; a machine carries its own `Config` in its state
(log 6). The free values of `93_implementation_defined.md` A.2 are the `opaque` constants at the end (log 5). -/

namespace Sys2Proof

/-- Where a 1-bit IOMAP field lies: a byte's address and a bit of it (`10_state.md` rule R141). -/
structure BitLoc where
  addr : Addr
  bit  : BitVec 3
deriving DecidableEq, Repr

/-- Where a multi-bit IOMAP field lies: bits `hi` to `lo` of a byte (`10_state.md` rule R141). -/
structure FieldLoc where
  addr : Addr
  hi   : BitVec 3
  lo   : BitVec 3
deriving DecidableEq, Repr

/-- The IOMAP record of `10_state.md` rule R141: where every memory-mapped register and bit lies. A field of type
`Addr` is an 8-bit register, or the first byte of a 16-bit big-endian one where its comment says so. -/
structure IoMap where
  -- interrupt enables
  enIrq0 : BitLoc
  enIrq1 : BitLoc
  enRtcQuarter : BitLoc
  enRtcHalf : BitLoc
  enRtcSecond : BitLoc
  enRtcMinute : BitLoc
  enRtcHour : BitLoc
  enTb1 : BitLoc
  -- interrupt flags
  flagIrq0 : BitLoc
  flagIrq1 : BitLoc
  flagRtcQuarter : BitLoc
  flagRtcHalf : BitLoc
  flagRtcSecond : BitLoc
  flagRtcMinute : BitLoc
  flagRtcHour : BitLoc
  flagTb1 : BitLoc
  -- Timer B1
  tb1Cks : FieldLoc
  tb1Run : BitLoc
  tb1Stby : BitLoc
  tb1Cnt : Addr
  -- Timer W; the counter and the compare registers are 16-bit pairs
  twCts : BitLoc
  twStby : BitLoc
  twCclr : BitLoc
  twCks : FieldLoc
  twImiea : BitLoc
  twOvie : BitLoc
  twImfa : BitLoc
  twOvf : BitLoc
  twTcnt : Addr
  twGra : Addr
  twGrb : Addr
  twGrc : Addr
  -- RTC
  rtcSec : Addr
  rtcMin : Addr
  rtcHour : Addr
  rtcDay : Addr
  -- SSU
  ssuTe : BitLoc
  ssuRe : BitLoc
  ssuTdre : BitLoc
  ssuRdrf : BitLoc
  ssuTend : BitLoc
  ssuTdr : Addr
  ssuRdr : Addr
  ssuCks : FieldLoc
  -- ports
  csEeprom : BitLoc
  csAccel : BitLoc
  csLcd : BitLoc
  lcdDc : BitLoc
  keyPort : Addr
  -- SCI3
  sciTe : BitLoc
  sciRe : BitLoc
  sciTdre : BitLoc
  sciRdrf : BitLoc
  sciTend : BitLoc
  sciTdr : Addr
  sciRdr : Addr
  sciCks : FieldLoc
deriving DecidableEq, Repr

/-- A register view that a ROM patch may write (`60_exceptions.md` rule R1272), with the value. -/
inductive ViewWrite where
  | byte (r : Sel) (v : Byte)
  | half (r : Sel) (v : Half)
  | long (r : ErSel) (v : Long)
deriving DecidableEq, Repr

/-- An entry of `PC_PATCHES` (`60_exceptions.md` rule R1272). -/
structure PcPatch where
  addr  : Addr
  delta : Int
  write : Option ViewWrite
deriving DecidableEq, Repr

/-- `KEY_IRQ` (`60_exceptions.md` rule R1270): the flag that the wake key raises. -/
inductive KeyIrq where
  | irq0
  | irq1
deriving DecidableEq, Repr

/-- The OPEN parameters of `92_eei_decisions.md`. A map from a select code is the list of its values, code 0 first. -/
structure Config where
  /-- `IOMAP` (D12). -/
  io : IoMap
  /-- `CYCLES` (D32): one cost for each row of `spec/opcode_table.json`, in the table's order. -/
  cycles : List Nat
  /-- `SLEEP_IDLE_CYCLES` (D32). -/
  sleepIdleCycles : Nat
  /-- The vector addresses (D11). -/
  vecIrq0 : Addr
  vecIrq1 : Addr
  vecRtcQuarter : Addr
  vecRtcHalf : Addr
  vecRtcSecond : Addr
  vecRtcMinute : Addr
  vecRtcHour : Addr
  vecTb1 : Addr
  vecTw : Addr
  /-- `TB1_PRESCALE_MAP` (D31): partial, so a code may have no divisor. -/
  tb1Prescale : List (Option Nat)
  /-- `TW_PRESCALE_MAP` (D31). -/
  twPrescale : List (Option Nat)
  /-- `SSU_PERIOD` (D33). -/
  ssuPeriod : List Nat
  /-- `SCI3_PERIOD` (D33). -/
  sci3Period : List Nat
  /-- `TIMER_PERIOD` (D33). -/
  timerPeriod : Nat
  /-- `DISPLAY_PERIOD` (D33). -/
  displayPeriod : Nat
  /-- `TW_IRQ_LEVEL` (D28). -/
  twIrqLevel : Bool
  /-- The active levels of the chip-selects (D36): `true` is level 1. -/
  csEepromActive : Bool
  csAccelActive : Bool
  csLcdActive : Bool
  /-- `LCD_DC_ASSERTED` (D36). -/
  lcdDcAsserted : Bool
  /-- The EEPROM's command bytes (D38). -/
  eepCmdRead : Byte
  eepCmdWrite : Byte
  eepCmdWren : Byte
  eepCmdRdsr : Byte
  /-- `EEP_WEL_BIT` (D38). -/
  eepWelBit : BitVec 3
  /-- `ACCEL_SIZE` and `ACCEL_INIT` (D40). -/
  accelSize : Nat
  accelInit : List Byte
  /-- `LCD_WIDTH` and `LCD_PAGES` (D41). -/
  lcdWidth : Nat
  lcdPages : Nat
  /-- Key injection (D44). -/
  wakeKey : Byte
  keyIrq : KeyIrq
  keyAckPc : Addr
  keyNeutral : Byte
  /-- `PC_PATCHES` (D44); the empty list gives the plain machine. -/
  pcPatches : List PcPatch
deriving DecidableEq, Repr

/-! ### Which instantiations the spec admits -/

/-- The bits of one byte that an IOMAP field occupies: the byte's address and a mask. -/
abbrev Piece := Addr × Byte

def BitLoc.piece (f : BitLoc) : Piece := (f.addr, 1#8 <<< f.bit.toNat)

def FieldLoc.piece (f : FieldLoc) : Piece :=
  (f.addr, (BitVec.ofNat 8 (2 ^ (f.hi.toNat + 1) - 2 ^ f.lo.toNat)))

/-- Two pieces share no bit. -/
def Piece.disjoint (p q : Piece) : Bool := p.1 != q.1 || p.2 &&& q.2 == 0#8

/-- No piece of the list shares a bit with a later one. -/
def Piece.allDisjoint : List Piece → Bool
  | [] => true
  | p :: ps => ps.all p.disjoint && Piece.allDisjoint ps

/-- The five RTC enables, the only fields that may coincide (`10_state.md` rule R141). -/
def IoMap.rtcEnables (m : IoMap) : List Piece :=
  [m.enRtcQuarter, m.enRtcHalf, m.enRtcSecond, m.enRtcMinute, m.enRtcHour].map BitLoc.piece

/-- Every other field. -/
def IoMap.otherPieces (m : IoMap) : List Piece :=
  [m.enIrq0, m.enIrq1, m.enTb1, m.flagIrq0, m.flagIrq1, m.flagRtcQuarter, m.flagRtcHalf, m.flagRtcSecond,
    m.flagRtcMinute, m.flagRtcHour, m.flagTb1, m.tb1Run, m.tb1Stby, m.twCts, m.twStby, m.twCclr, m.twImiea, m.twOvie,
    m.twImfa, m.twOvf, m.ssuTe, m.ssuRe, m.ssuTdre, m.ssuRdrf, m.ssuTend, m.csEeprom, m.csAccel, m.csLcd, m.lcdDc,
    m.sciTe, m.sciRe, m.sciTdre, m.sciRdrf, m.sciTend].map BitLoc.piece
  ++ [m.tb1Cks, m.twCks, m.ssuCks, m.sciCks].map FieldLoc.piece
  ++ [m.tb1Cnt, m.rtcSec, m.rtcMin, m.rtcHour, m.rtcDay, m.ssuTdr, m.ssuRdr, m.keyPort, m.sciTdr, m.sciRdr].map
      (fun a => (a, 0xFF#8))
  ++ [m.twTcnt, m.twGra, m.twGrb, m.twGrc].flatMap (fun a => [(a, 0xFF#8), (a + 1, 0xFF#8)])

/-- No two fields share a bit, but for the RTC enables among themselves (`10_state.md` rule R141, D12). -/
def IoMap.valid (m : IoMap) : Bool :=
  Piece.allDisjoint m.otherPieces
  && m.rtcEnables.all (fun p => m.otherPieces.all p.disjoint)
  && [m.tb1Cks, m.twCks].all (fun f => f.hi.toNat == f.lo.toNat + 2)
  && [m.ssuCks, m.sciCks].all (fun f => decide (f.lo.toNat ≤ f.hi.toNat))

/-- The number of values a multi-bit field can hold. -/
def FieldLoc.codes (f : FieldLoc) : Nat := 2 ^ (f.hi.toNat - f.lo.toNat + 1)

/-- The types and bounds that `92_eei_decisions.md` ("Parameters") gives the parameters. A machine is not built from a
`Config` that fails this (`State.construct`). -/
def Config.valid (c : Config) : Bool :=
  c.io.valid
  && c.cycles.length == 264 && c.cycles.all (fun n => decide (1 ≤ n))
  && decide (1 ≤ c.sleepIdleCycles)
  && c.tb1Prescale.length == 8 && c.tb1Prescale.all (fun d => [none, some 256, some 1024].contains d)
  && c.twPrescale.length == 8 && c.twPrescale.all (fun d => [none, some 1, some 4, some 16].contains d)
  && c.ssuPeriod.length == c.io.ssuCks.codes && c.ssuPeriod.all (fun n => decide (1 ≤ n))
  && c.sci3Period.length == c.io.sciCks.codes && c.sci3Period.all (fun n => decide (1 ≤ n))
  && decide (1 ≤ c.timerPeriod) && decide (1 ≤ c.displayPeriod)
  && c.eepCmdRead != c.eepCmdWrite && c.eepCmdRead != c.eepCmdWren && c.eepCmdRead != c.eepCmdRdsr
  && c.eepCmdWrite != c.eepCmdWren && c.eepCmdWrite != c.eepCmdRdsr && c.eepCmdWren != c.eepCmdRdsr
  && decide (1 ≤ c.accelSize) && c.accelInit.length == c.accelSize
  && decide (1 ≤ c.lcdWidth) && decide (1 ≤ c.lcdPages)

/-! ### The reference instantiation -/

/-- DESIGN CHOICE (log 7, unsafe): the IOMAP of `State.reset`. It takes the values of the test instantiation T of
`95_test_vectors.md` §0 where T gives one, and for "every other IOMAP field" a byte of its own in 0xF000-0xF0DF, as T
asks. -/
def IoMap.reference : IoMap where
  enIrq0 := ⟨0xFFF3, 0⟩
  enIrq1 := ⟨0xF000, 0⟩
  enRtcQuarter := ⟨0xF001, 0⟩
  enRtcHalf := ⟨0xF002, 0⟩
  enRtcSecond := ⟨0xF003, 0⟩
  enRtcMinute := ⟨0xF004, 0⟩
  enRtcHour := ⟨0xF005, 0⟩
  enTb1 := ⟨0xFFF4, 0⟩
  flagIrq0 := ⟨0xFFF6, 0⟩
  flagIrq1 := ⟨0xF006, 0⟩
  flagRtcQuarter := ⟨0xF007, 0⟩
  flagRtcHalf := ⟨0xF008, 0⟩
  flagRtcSecond := ⟨0xF009, 0⟩
  flagRtcMinute := ⟨0xF00A, 0⟩
  flagRtcHour := ⟨0xF00B, 0⟩
  flagTb1 := ⟨0xFFF7, 0⟩
  tb1Cks := ⟨0xFFC0, 2, 0⟩
  tb1Run := ⟨0xFFC0, 7⟩
  tb1Stby := ⟨0xFFC2, 0⟩
  tb1Cnt := 0xFFC1
  twCts := ⟨0xF010, 0⟩
  twStby := ⟨0xF011, 0⟩
  twCclr := ⟨0xF012, 0⟩
  twCks := ⟨0xF013, 2, 0⟩
  twImiea := ⟨0xF014, 0⟩
  twOvie := ⟨0xF015, 0⟩
  twImfa := ⟨0xF016, 0⟩
  twOvf := ⟨0xF017, 0⟩
  twTcnt := 0xF020
  twGra := 0xF022
  twGrb := 0xF024
  twGrc := 0xF026
  rtcSec := 0xF030
  rtcMin := 0xF031
  rtcHour := 0xF032
  rtcDay := 0xF033
  ssuTe := ⟨0xF0E2, 7⟩
  ssuRe := ⟨0xF0E2, 6⟩
  ssuTdre := ⟨0xF0E4, 2⟩
  ssuRdrf := ⟨0xF0E4, 1⟩
  ssuTend := ⟨0xF0E4, 3⟩
  ssuTdr := 0xF0EB
  ssuRdr := 0xF0E9
  ssuCks := ⟨0xF040, 2, 0⟩
  csEeprom := ⟨0xF0F0, 2⟩
  csAccel := ⟨0xF0F0, 0⟩
  csLcd := ⟨0xF0F0, 1⟩
  lcdDc := ⟨0xF0F0, 3⟩
  keyPort := 0xFFDE
  sciTe := ⟨0xF050, 0⟩
  sciRe := ⟨0xF051, 0⟩
  sciTdre := ⟨0xF052, 0⟩
  sciRdrf := ⟨0xF053, 0⟩
  sciTend := ⟨0xF054, 0⟩
  sciTdr := 0xF055
  sciRdr := 0xF056
  sciCks := ⟨0xF057, 1, 0⟩

/-- DESIGN CHOICE (log 7, unsafe): the instantiation of `State.reset`. Where `95_test_vectors.md` §0 gives a value (T),
it is T's; the costs, periods and remaining vectors, which T leaves symbolic, are the model's choice. -/
def Config.reference : Config where
  io := IoMap.reference
  cycles := List.replicate 264 2
  sleepIdleCycles := 2
  vecIrq0 := 0x0020
  vecIrq1 := 0x0022
  vecRtcQuarter := 0x0024
  vecRtcHalf := 0x0026
  vecRtcSecond := 0x0028
  vecRtcMinute := 0x002A
  vecRtcHour := 0x002C
  vecTb1 := 0x0030
  vecTw := 0x0032
  tb1Prescale := [some 256, some 1024, none, none, none, none, none, none]
  twPrescale := [some 1, some 4, some 16, none, none, none, none, none]
  ssuPeriod := [1, 2, 4, 8, 16, 32, 64, 128]
  sci3Period := [1, 4, 16, 64]
  timerPeriod := 8
  displayPeriod := 65536
  twIrqLevel := false
  csEepromActive := false
  csAccelActive := false
  csLcdActive := false
  lcdDcAsserted := true
  eepCmdRead := 0x03
  eepCmdWrite := 0x02
  eepCmdWren := 0x06
  eepCmdRdsr := 0x05
  eepWelBit := 1
  accelSize := 16
  accelInit := [0x40, 0x41, 0x42, 0x43, 0x44, 0x45, 0x46, 0x47, 0x48, 0x49, 0x4A, 0x4B, 0x4C, 0x4D, 0x4E, 0x4F]
  lcdWidth := 96
  lcdPages := 8
  wakeKey := 0x08
  keyIrq := .irq0
  keyAckPc := 0xFFFE
  keyNeutral := 0x00
  pcPatches := []

/-! ### Free values

The `draw` of `00_scope.md` rule R15: an unconstrained value. A meaning that needs one applies the constant to the
state's count of draws and advances the count (`State.drawBool` and its fellows in `Machine/Ops.lean`). Nothing in Lean
can tell what these constants are (log 5, safe). -/

opaque Config.freeBool : Nat → Bool
opaque Config.freeByte : Nat → Byte
opaque Config.freeHalf : Nat → Half
opaque Config.freeLong : Nat → Long

end Sys2Proof
end

