-- ==== Sys2Proof/Syntax.lean ====
section
/-! DEFINITION. The instructions: one constructor per row of `spec/opcode_table.json`, in the table's order, but for two points.
The two rows of a branch, d:8 and d:16, which one rule of `45_branch.md` describes together, are one constructor whose
operand says which; and NOP, SLEEP and RTE stand last. (Lean's runtime holds no constructor with fields past the 245th;
`Instr.row` gives each instruction its row.) Fields are named as the table names them (rs, rd, rn, imm, abs, disp); a field of type
`Sel` is a 4-bit selector, one of type `ErSel` the nibble of a 32-bit register. -/

namespace Sys2Proof

/-- The dispatch keys of `30_encoding.md` rules R301 and R322, computed from the first three bytes a, b, c of an
instruction: `k1 = (aH, aL)`; `k2 = (a, bH)` for the primary keys that redirect to the secondary table; and
`k3 = (a<<12 | b<<4 | cH, cL)` for the tertiary group. -/
structure DecodeKeys where
  k1 : BitVec 4 × BitVec 4
  k2 : Option (Byte × BitVec 4)
  k3 : Option (BitVec 20 × BitVec 4)
deriving DecidableEq, Repr

/-- Why bytes are no instruction. -/
inductive DecodeReject where
  /-- The bytes match no row of `30_encoding.md` rule R350: DecodeError (rule R330). -/
  | noRow (keys : DecodeKeys)
  /-- A row's leading bytes match, but fewer bytes than its length were given. A step always gives ten bytes
  (`20_memory.md` rule R233), so no step meets this. -/
  | truncated
deriving DecidableEq, Repr

/-- The displacement operand of a branch: `d:8` or `d:16` (`45_branch.md` rule R901). -/
inductive BranchDisp where
  | d8  (disp : BitVec 8)
  | d16 (disp : BitVec 16)
deriving DecidableEq, Repr

/-- One constructor per row of `spec/opcode_table.json` (`30_encoding.md` rule R350). -/
inductive Instr where
  -- Data transfer (`40_data_transfer.md`)
  /-- 1. MOV.B Rs,Rd: rule R412. -/
  | movBReg (rs : Sel) (rd : Sel)
  /-- 2. MOV.W Rs,Rd: rule R413. -/
  | movWReg (rs : Sel) (rd : Sel)
  /-- 3. MOV.L ERs,ERd: rule R414. -/
  | movLReg (rs : ErSel) (rd : ErSel)
  /-- 4. MOV.B #xx:8,Rd: rule R412. -/
  | movBImm (imm : BitVec 8) (rd : Sel)
  /-- 5. MOV.W #xx:16,Rd: rule R413. -/
  | movWImm (imm : BitVec 16) (rd : Sel)
  /-- 6. MOV.L #xx:32,ERd: rule R414. -/
  | movLImm (imm : BitVec 32) (rd : ErSel)
  /-- 7. MOV.B @ERs,Rd: rule R412. -/
  | movBInd (rs : ErSel) (rd : Sel)
  /-- 8. MOV.W @ERs,Rd: rule R413. -/
  | movWInd (rs : ErSel) (rd : Sel)
  /-- 9. MOV.L @ERs,ERd: rule R414. -/
  | movLInd (rs : ErSel) (rd : ErSel)
  /-- 10. MOV.B Rs,@ERd: rule R412. -/
  | movBToInd (rs : Sel) (rd : ErSel)
  /-- 11. MOV.W Rs,@ERd: rule R413. -/
  | movWToInd (rs : Sel) (rd : ErSel)
  /-- 12. MOV.L ERs,@ERd: rule R414. -/
  | movLToInd (rs : ErSel) (rd : ErSel)
  /-- 13. MOV.B @(d:16,ERs),Rd: rule R412. -/
  | movBDisp16 (disp : BitVec 16) (rs : ErSel) (rd : Sel)
  /-- 14. MOV.W @(d:16,ERs),Rd: rule R413. -/
  | movWDisp16 (disp : BitVec 16) (rs : ErSel) (rd : Sel)
  /-- 15. MOV.L @(d:16,ERs),ERd: rule R414. -/
  | movLDisp16 (disp : BitVec 16) (rs : ErSel) (rd : ErSel)
  /-- 16. MOV.B Rs,@(d:16,ERd): rule R412. -/
  | movBToDisp16 (rs : Sel) (disp : BitVec 16) (rd : ErSel)
  /-- 17. MOV.W Rs,@(d:16,ERd): rule R413. -/
  | movWToDisp16 (rs : Sel) (disp : BitVec 16) (rd : ErSel)
  /-- 18. MOV.L ERs,@(d:16,ERd): rule R414. -/
  | movLToDisp16 (rs : ErSel) (disp : BitVec 16) (rd : ErSel)
  /-- 19. MOV.B @(d:24,ERs),Rd: rule R412. -/
  | movBDisp24 (disp : BitVec 24) (rs : ErSel) (rd : Sel)
  /-- 20. MOV.W @(d:24,ERs),Rd: rule R413. -/
  | movWDisp24 (disp : BitVec 24) (rs : ErSel) (rd : Sel)
  /-- 21. MOV.L @(d:24,ERs),ERd: rule R414. -/
  | movLDisp24 (disp : BitVec 24) (rs : ErSel) (rd : ErSel)
  /-- 22. MOV.B Rs,@(d:24,ERd): rule R412. -/
  | movBToDisp24 (rs : Sel) (disp : BitVec 24) (rd : ErSel)
  /-- 23. MOV.W Rs,@(d:24,ERd): rule R413. -/
  | movWToDisp24 (rs : Sel) (disp : BitVec 24) (rd : ErSel)
  /-- 24. MOV.L ERs,@(d:24,ERd): rule R414. -/
  | movLToDisp24 (rs : ErSel) (disp : BitVec 24) (rd : ErSel)
  /-- 25. MOV.B @ERs+,Rd: rule R412. -/
  | movBPostInc (rs : ErSel) (rd : Sel)
  /-- 26. MOV.W @ERs+,Rd: rule R413. -/
  | movWPostInc (rs : ErSel) (rd : Sel)
  /-- 27. MOV.L @ERs+,ERd: rule R414. -/
  | movLPostInc (rs : ErSel) (rd : ErSel)
  /-- 28. MOV.B Rs,@-ERd: rule R412. -/
  | movBToPreDec (rs : Sel) (rd : ErSel)
  /-- 29. MOV.W Rs,@-ERd: rule R413. -/
  | movWToPreDec (rs : Sel) (rd : ErSel)
  /-- 30. MOV.L ERs,@-ERd: rule R414. -/
  | movLToPreDec (rs : ErSel) (rd : ErSel)
  /-- 31. MOV.B @aa:8,Rd: rule R412. -/
  | movBAbs8 (abs : BitVec 8) (rd : Sel)
  /-- 32. MOV.B @aa:16,Rd: rule R412. -/
  | movBAbs16 (abs : BitVec 16) (rd : Sel)
  /-- 33. MOV.B @aa:24,Rd: rule R412. -/
  | movBAbs24 (abs : BitVec 24) (rd : Sel)
  /-- 34. MOV.W @aa:16,Rd: rule R413. -/
  | movWAbs16 (abs : BitVec 16) (rd : Sel)
  /-- 35. MOV.W @aa:24,Rd: rule R413. -/
  | movWAbs24 (abs : BitVec 24) (rd : Sel)
  /-- 36. MOV.L @aa:16,ERd: rule R414. -/
  | movLAbs16 (abs : BitVec 16) (rd : ErSel)
  /-- 37. MOV.L @aa:24,ERd: rule R414. -/
  | movLAbs24 (abs : BitVec 24) (rd : ErSel)
  /-- 38. MOV.B Rs,@aa:8: rule R412. -/
  | movBToAbs8 (rs : Sel) (abs : BitVec 8)
  /-- 39. MOV.B Rs,@aa:16: rule R412. -/
  | movBToAbs16 (rs : Sel) (abs : BitVec 16)
  /-- 40. MOV.B Rs,@aa:24: rule R412. -/
  | movBToAbs24 (rs : Sel) (abs : BitVec 24)
  /-- 41. MOV.W Rs,@aa:16: rule R413. -/
  | movWToAbs16 (rs : Sel) (abs : BitVec 16)
  /-- 42. MOV.W Rs,@aa:24: rule R413. -/
  | movWToAbs24 (rs : Sel) (abs : BitVec 24)
  /-- 43. MOV.L ERs,@aa:16: rule R414. -/
  | movLToAbs16 (rs : ErSel) (abs : BitVec 16)
  /-- 44. MOV.L ERs,@aa:24: rule R414. -/
  | movLToAbs24 (rs : ErSel) (abs : BitVec 24)
  /-- 45. EEPMOV.B: rule R416. -/
  | eepmovB
  /-- 46. EEPMOV.W: rule R417. -/
  | eepmovW
  /-- 47. MOVFPE @aa:16,Rd: rule R418; not admitted (`30_encoding.md` rule R331). -/
  | movfpe (abs : BitVec 16) (rd : Sel)
  /-- 48. MOVTPE Rs,@aa:16: rule R418; not admitted (`30_encoding.md` rule R331). -/
  | movtpe (rs : Sel) (abs : BitVec 16)
  -- Arithmetic (`41_arithmetic.md`)
  /-- 49. ADD.B #xx:8,Rd: rule R510. -/
  | addBImm (imm : BitVec 8) (rd : Sel)
  /-- 50. ADD.B Rs,Rd: rule R510. -/
  | addBReg (rs : Sel) (rd : Sel)
  /-- 51. ADD.W #xx:16,Rd: rule R511. -/
  | addWImm (imm : BitVec 16) (rd : Sel)
  /-- 52. ADD.W Rs,Rd: rule R511. -/
  | addWReg (rs : Sel) (rd : Sel)
  /-- 53. ADD.L #xx:32,ERd: rule R512. -/
  | addLImm (imm : BitVec 32) (rd : ErSel)
  /-- 54. ADD.L ERs,ERd: rule R512. -/
  | addLReg (rs : ErSel) (rd : ErSel)
  /-- 55. ADDX #xx:8,Rd: rule R513. -/
  | addxImm (imm : BitVec 8) (rd : Sel)
  /-- 56. ADDX Rs,Rd: rule R513. -/
  | addxReg (rs : Sel) (rd : Sel)
  /-- 57. ADDS #1,ERd: rule R514. -/
  | adds1 (rd : ErSel)
  /-- 58. ADDS #2,ERd: rule R514. -/
  | adds2 (rd : ErSel)
  /-- 59. ADDS #4,ERd: rule R514. -/
  | adds4 (rd : ErSel)
  /-- 60. INC.B Rd: rule R515. -/
  | incB (rd : Sel)
  /-- 61. INC.W #1,Rd: rule R516. -/
  | incW1 (rd : Sel)
  /-- 62. INC.W #2,Rd: rule R516. -/
  | incW2 (rd : Sel)
  /-- 63. INC.L #1,ERd: rule R517. -/
  | incL1 (rd : ErSel)
  /-- 64. INC.L #2,ERd: rule R517. -/
  | incL2 (rd : ErSel)
  /-- 65. DAA Rd: rule R518. -/
  | daa (rd : Sel)
  /-- 66. SUB.B Rs,Rd: rule R519. -/
  | subBReg (rs : Sel) (rd : Sel)
  /-- 67. SUB.W #xx:16,Rd: rule R520. -/
  | subWImm (imm : BitVec 16) (rd : Sel)
  /-- 68. SUB.W Rs,Rd: rule R520. -/
  | subWReg (rs : Sel) (rd : Sel)
  /-- 69. SUB.L #xx:32,ERd: rule R521. -/
  | subLImm (imm : BitVec 32) (rd : ErSel)
  /-- 70. SUB.L ERs,ERd: rule R521. -/
  | subLReg (rs : ErSel) (rd : ErSel)
  /-- 71. SUBX #xx:8,Rd: rule R522. -/
  | subxImm (imm : BitVec 8) (rd : Sel)
  /-- 72. SUBX Rs,Rd: rule R522. -/
  | subxReg (rs : Sel) (rd : Sel)
  /-- 73. SUBS #1,ERd: rule R523. -/
  | subs1 (rd : ErSel)
  /-- 74. SUBS #2,ERd: rule R523. -/
  | subs2 (rd : ErSel)
  /-- 75. SUBS #4,ERd: rule R523. -/
  | subs4 (rd : ErSel)
  /-- 76. DEC.B Rd: rule R524. -/
  | decB (rd : Sel)
  /-- 77. DEC.W #1,Rd: rule R525. -/
  | decW1 (rd : Sel)
  /-- 78. DEC.W #2,Rd: rule R525. -/
  | decW2 (rd : Sel)
  /-- 79. DEC.L #1,ERd: rule R526. -/
  | decL1 (rd : ErSel)
  /-- 80. DEC.L #2,ERd: rule R526. -/
  | decL2 (rd : ErSel)
  /-- 81. DAS Rd: rule R527. -/
  | das (rd : Sel)
  /-- 82. NEG.B Rd: rule R528. -/
  | negB (rd : Sel)
  /-- 83. NEG.W Rd: rule R529. -/
  | negW (rd : Sel)
  /-- 84. NEG.L ERd: rule R530. -/
  | negL (rd : ErSel)
  /-- 85. CMP.B #xx:8,Rd: rule R531. -/
  | cmpBImm (imm : BitVec 8) (rd : Sel)
  /-- 86. CMP.B Rs,Rd: rule R531. -/
  | cmpBReg (rs : Sel) (rd : Sel)
  /-- 87. CMP.W #xx:16,Rd: rule R532. -/
  | cmpWImm (imm : BitVec 16) (rd : Sel)
  /-- 88. CMP.W Rs,Rd: rule R532. -/
  | cmpWReg (rs : Sel) (rd : Sel)
  /-- 89. CMP.L #xx:32,ERd: rule R533. -/
  | cmpLImm (imm : BitVec 32) (rd : ErSel)
  /-- 90. CMP.L ERs,ERd: rule R533. -/
  | cmpLReg (rs : ErSel) (rd : ErSel)
  /-- 91. MULXU.B Rs,Rd: rule R534. -/
  | mulxuB (rs : Sel) (rd : Sel)
  /-- 92. MULXU.W Rs,ERd: rule R535. -/
  | mulxuW (rs : Sel) (rd : ErSel)
  /-- 93. MULXS.B Rs,Rd: rule R536. -/
  | mulxsB (rs : Sel) (rd : Sel)
  /-- 94. MULXS.W Rs,ERd: rule R537. -/
  | mulxsW (rs : Sel) (rd : ErSel)
  /-- 95. DIVXU.B Rs,Rd: rule R538. -/
  | divxuB (rs : Sel) (rd : Sel)
  /-- 96. DIVXU.W Rs,ERd: rule R539. -/
  | divxuW (rs : Sel) (rd : ErSel)
  /-- 97. DIVXS.B Rs,Rd: rule R540. -/
  | divxsB (rs : Sel) (rd : Sel)
  /-- 98. DIVXS.W Rs,ERd: rule R541. -/
  | divxsW (rs : Sel) (rd : ErSel)
  /-- 99. EXTU.W Rd: rule R542. -/
  | extuW (rd : Sel)
  /-- 100. EXTU.L ERd: rule R543. -/
  | extuL (rd : ErSel)
  /-- 101. EXTS.W Rd: rule R544. -/
  | extsW (rd : Sel)
  /-- 102. EXTS.L ERd: rule R545. -/
  | extsL (rd : ErSel)
  -- Logic (`42_logic.md`)
  /-- 103. AND.B #xx:8,Rd: rule R601. -/
  | andBImm (imm : BitVec 8) (rd : Sel)
  /-- 104. AND.B Rs,Rd: rule R601. -/
  | andBReg (rs : Sel) (rd : Sel)
  /-- 105. AND.W #xx:16,Rd: rule R602. -/
  | andWImm (imm : BitVec 16) (rd : Sel)
  /-- 106. AND.W Rs,Rd: rule R602. -/
  | andWReg (rs : Sel) (rd : Sel)
  /-- 107. AND.L #xx:32,ERd: rule R603. -/
  | andLImm (imm : BitVec 32) (rd : ErSel)
  /-- 108. AND.L ERs,ERd: rule R603. -/
  | andLReg (rs : ErSel) (rd : ErSel)
  /-- 109. OR.B #xx:8,Rd: rule R604. -/
  | orBImm (imm : BitVec 8) (rd : Sel)
  /-- 110. OR.B Rs,Rd: rule R604. -/
  | orBReg (rs : Sel) (rd : Sel)
  /-- 111. OR.W #xx:16,Rd: rule R605. -/
  | orWImm (imm : BitVec 16) (rd : Sel)
  /-- 112. OR.W Rs,Rd: rule R605. -/
  | orWReg (rs : Sel) (rd : Sel)
  /-- 113. OR.L #xx:32,ERd: rule R606. -/
  | orLImm (imm : BitVec 32) (rd : ErSel)
  /-- 114. OR.L ERs,ERd: rule R606. -/
  | orLReg (rs : ErSel) (rd : ErSel)
  /-- 115. XOR.B #xx:8,Rd: rule R607. -/
  | xorBImm (imm : BitVec 8) (rd : Sel)
  /-- 116. XOR.B Rs,Rd: rule R607. -/
  | xorBReg (rs : Sel) (rd : Sel)
  /-- 117. XOR.W #xx:16,Rd: rule R608. -/
  | xorWImm (imm : BitVec 16) (rd : Sel)
  /-- 118. XOR.W Rs,Rd: rule R608. -/
  | xorWReg (rs : Sel) (rd : Sel)
  /-- 119. XOR.L #xx:32,ERd: rule R609. -/
  | xorLImm (imm : BitVec 32) (rd : ErSel)
  /-- 120. XOR.L ERs,ERd: rule R609. -/
  | xorLReg (rs : ErSel) (rd : ErSel)
  /-- 121. NOT.B Rd: rule R610. -/
  | notB (rd : Sel)
  /-- 122. NOT.W Rd: rule R611. -/
  | notW (rd : Sel)
  /-- 123. NOT.L ERd: rule R612. -/
  | notL (rd : ErSel)
  -- Shifts and rotates (`43_shift.md`)
  /-- 124. SHAL.B Rd: rule R701. -/
  | shalB (rd : Sel)
  /-- 125. SHAL.W Rd: rule R702. -/
  | shalW (rd : Sel)
  /-- 126. SHAL.L ERd: rule R703. -/
  | shalL (rd : ErSel)
  /-- 127. SHAR.B Rd: rule R704. -/
  | sharB (rd : Sel)
  /-- 128. SHAR.W Rd: rule R705. -/
  | sharW (rd : Sel)
  /-- 129. SHAR.L ERd: rule R706. -/
  | sharL (rd : ErSel)
  /-- 130. SHLL.B Rd: rule R707. -/
  | shllB (rd : Sel)
  /-- 131. SHLL.W Rd: rule R708. -/
  | shllW (rd : Sel)
  /-- 132. SHLL.L ERd: rule R709. -/
  | shllL (rd : ErSel)
  /-- 133. SHLR.B Rd: rule R710. -/
  | shlrB (rd : Sel)
  /-- 134. SHLR.W Rd: rule R711. -/
  | shlrW (rd : Sel)
  /-- 135. SHLR.L ERd: rule R712. -/
  | shlrL (rd : ErSel)
  /-- 136. ROTL.B Rd: rule R713. -/
  | rotlB (rd : Sel)
  /-- 137. ROTL.W Rd: rule R714. -/
  | rotlW (rd : Sel)
  /-- 138. ROTL.L ERd: rule R715. -/
  | rotlL (rd : ErSel)
  /-- 139. ROTR.B Rd: rule R716. -/
  | rotrB (rd : Sel)
  /-- 140. ROTR.W Rd: rule R717. -/
  | rotrW (rd : Sel)
  /-- 141. ROTR.L ERd: rule R718. -/
  | rotrL (rd : ErSel)
  /-- 142. ROTXL.B Rd: rule R719. -/
  | rotxlB (rd : Sel)
  /-- 143. ROTXL.W Rd: rule R720. -/
  | rotxlW (rd : Sel)
  /-- 144. ROTXL.L ERd: rule R721. -/
  | rotxlL (rd : ErSel)
  /-- 145. ROTXR.B Rd: rule R722. -/
  | rotxrB (rd : Sel)
  /-- 146. ROTXR.W Rd: rule R723. -/
  | rotxrW (rd : Sel)
  /-- 147. ROTXR.L ERd: rule R724. -/
  | rotxrL (rd : ErSel)
  -- Bit manipulation (`44_bit.md`)
  /-- 148. BSET #xx:3,Rd: rule R802. -/
  | bsetImmReg (imm : BitVec 3) (rd : Sel)
  /-- 149. BSET Rn,Rd: rule R802. -/
  | bsetRegReg (rn : Sel) (rd : Sel)
  /-- 150. BSET #xx:3,@ERd: rule R802. -/
  | bsetImmInd (imm : BitVec 3) (rd : ErSel)
  /-- 151. BSET Rn,@ERd: rule R802. -/
  | bsetRegInd (rn : Sel) (rd : ErSel)
  /-- 152. BSET #xx:3,@aa:8: rule R802. -/
  | bsetImmAbs8 (imm : BitVec 3) (abs : BitVec 8)
  /-- 153. BSET Rn,@aa:8: rule R802. -/
  | bsetRegAbs8 (rn : Sel) (abs : BitVec 8)
  /-- 154. BNOT #xx:3,Rd: rule R804. -/
  | bnotImmReg (imm : BitVec 3) (rd : Sel)
  /-- 155. BNOT Rn,Rd: rule R804. -/
  | bnotRegReg (rn : Sel) (rd : Sel)
  /-- 156. BNOT #xx:3,@ERd: rule R804. -/
  | bnotImmInd (imm : BitVec 3) (rd : ErSel)
  /-- 157. BNOT Rn,@ERd: rule R804. -/
  | bnotRegInd (rn : Sel) (rd : ErSel)
  /-- 158. BNOT #xx:3,@aa:8: rule R804. -/
  | bnotImmAbs8 (imm : BitVec 3) (abs : BitVec 8)
  /-- 159. BNOT Rn,@aa:8: rule R804. -/
  | bnotRegAbs8 (rn : Sel) (abs : BitVec 8)
  /-- 160. BCLR #xx:3,Rd: rule R803. -/
  | bclrImmReg (imm : BitVec 3) (rd : Sel)
  /-- 161. BCLR Rn,Rd: rule R803. -/
  | bclrRegReg (rn : Sel) (rd : Sel)
  /-- 162. BCLR #xx:3,@ERd: rule R803. -/
  | bclrImmInd (imm : BitVec 3) (rd : ErSel)
  /-- 163. BCLR Rn,@ERd: rule R803. -/
  | bclrRegInd (rn : Sel) (rd : ErSel)
  /-- 164. BCLR #xx:3,@aa:8: rule R803. -/
  | bclrImmAbs8 (imm : BitVec 3) (abs : BitVec 8)
  /-- 165. BCLR Rn,@aa:8: rule R803. -/
  | bclrRegAbs8 (rn : Sel) (abs : BitVec 8)
  /-- 166. BTST #xx:3,Rd: rule R805. -/
  | btstImmReg (imm : BitVec 3) (rd : Sel)
  /-- 167. BTST Rn,Rd: rule R805. -/
  | btstRegReg (rn : Sel) (rd : Sel)
  /-- 168. BTST #xx:3,@ERd: rule R805. -/
  | btstImmInd (imm : BitVec 3) (rd : ErSel)
  /-- 169. BTST Rn,@ERd: rule R805. -/
  | btstRegInd (rn : Sel) (rd : ErSel)
  /-- 170. BTST #xx:3,@aa:8: rule R805. -/
  | btstImmAbs8 (imm : BitVec 3) (abs : BitVec 8)
  /-- 171. BTST Rn,@aa:8: rule R805. -/
  | btstRegAbs8 (rn : Sel) (abs : BitVec 8)
  /-- 172. BLD #xx:3,Rd: rule R806. -/
  | bldReg (imm : BitVec 3) (rd : Sel)
  /-- 173. BLD #xx:3,@ERd: rule R806. -/
  | bldInd (imm : BitVec 3) (rd : ErSel)
  /-- 174. BLD #xx:3,@aa:8: rule R806. -/
  | bldAbs8 (imm : BitVec 3) (abs : BitVec 8)
  /-- 175. BILD #xx:3,Rd: rule R807. -/
  | bildReg (imm : BitVec 3) (rd : Sel)
  /-- 176. BILD #xx:3,@ERd: rule R807. -/
  | bildInd (imm : BitVec 3) (rd : ErSel)
  /-- 177. BILD #xx:3,@aa:8: rule R807. -/
  | bildAbs8 (imm : BitVec 3) (abs : BitVec 8)
  /-- 178. BST #xx:3,Rd: rule R808. -/
  | bstReg (imm : BitVec 3) (rd : Sel)
  /-- 179. BST #xx:3,@ERd: rule R808. -/
  | bstInd (imm : BitVec 3) (rd : ErSel)
  /-- 180. BST #xx:3,@aa:8: rule R808. -/
  | bstAbs8 (imm : BitVec 3) (abs : BitVec 8)
  /-- 181. BIST #xx:3,Rd: rule R809. -/
  | bistReg (imm : BitVec 3) (rd : Sel)
  /-- 182. BIST #xx:3,@ERd: rule R809. -/
  | bistInd (imm : BitVec 3) (rd : ErSel)
  /-- 183. BIST #xx:3,@aa:8: rule R809. -/
  | bistAbs8 (imm : BitVec 3) (abs : BitVec 8)
  /-- 184. BAND #xx:3,Rd: rule R810. -/
  | bandReg (imm : BitVec 3) (rd : Sel)
  /-- 185. BAND #xx:3,@ERd: rule R810. -/
  | bandInd (imm : BitVec 3) (rd : ErSel)
  /-- 186. BAND #xx:3,@aa:8: rule R810. -/
  | bandAbs8 (imm : BitVec 3) (abs : BitVec 8)
  /-- 187. BIAND #xx:3,Rd: rule R811. -/
  | biandReg (imm : BitVec 3) (rd : Sel)
  /-- 188. BIAND #xx:3,@ERd: rule R811. -/
  | biandInd (imm : BitVec 3) (rd : ErSel)
  /-- 189. BIAND #xx:3,@aa:8: rule R811. -/
  | biandAbs8 (imm : BitVec 3) (abs : BitVec 8)
  /-- 190. BOR #xx:3,Rd: rule R812. -/
  | borReg (imm : BitVec 3) (rd : Sel)
  /-- 191. BOR #xx:3,@ERd: rule R812. -/
  | borInd (imm : BitVec 3) (rd : ErSel)
  /-- 192. BOR #xx:3,@aa:8: rule R812. -/
  | borAbs8 (imm : BitVec 3) (abs : BitVec 8)
  /-- 193. BIOR #xx:3,Rd: rule R813. -/
  | biorReg (imm : BitVec 3) (rd : Sel)
  /-- 194. BIOR #xx:3,@ERd: rule R813. -/
  | biorInd (imm : BitVec 3) (rd : ErSel)
  /-- 195. BIOR #xx:3,@aa:8: rule R813. -/
  | biorAbs8 (imm : BitVec 3) (abs : BitVec 8)
  /-- 196. BXOR #xx:3,Rd: rule R814. -/
  | bxorReg (imm : BitVec 3) (rd : Sel)
  /-- 197. BXOR #xx:3,@ERd: rule R814. -/
  | bxorInd (imm : BitVec 3) (rd : ErSel)
  /-- 198. BXOR #xx:3,@aa:8: rule R814. -/
  | bxorAbs8 (imm : BitVec 3) (abs : BitVec 8)
  /-- 199. BIXOR #xx:3,Rd: rule R815. -/
  | bixorReg (imm : BitVec 3) (rd : Sel)
  /-- 200. BIXOR #xx:3,@ERd: rule R815. -/
  | bixorInd (imm : BitVec 3) (rd : ErSel)
  /-- 201. BIXOR #xx:3,@aa:8: rule R815. -/
  | bixorAbs8 (imm : BitVec 3) (abs : BitVec 8)
  -- Branches, jumps, calls, returns (`45_branch.md`)
  /-- 202 and 218. BRA d:8 or d:16: rule R902. -/
  | bra (disp : BranchDisp)
  /-- 203 and 219. BRN d:8 or d:16: rule R903. -/
  | brn (disp : BranchDisp)
  /-- 204 and 220. BHI d:8 or d:16: rule R904. -/
  | bhi (disp : BranchDisp)
  /-- 205 and 221. BLS d:8 or d:16: rule R905. -/
  | bls (disp : BranchDisp)
  /-- 206 and 222. BCC d:8 or d:16: rule R906. -/
  | bcc (disp : BranchDisp)
  /-- 207 and 223. BCS d:8 or d:16: rule R907. -/
  | bcs (disp : BranchDisp)
  /-- 208 and 224. BNE d:8 or d:16: rule R908. -/
  | bne (disp : BranchDisp)
  /-- 209 and 225. BEQ d:8 or d:16: rule R909. -/
  | beq (disp : BranchDisp)
  /-- 210 and 226. BVC d:8 or d:16: rule R910. -/
  | bvc (disp : BranchDisp)
  /-- 211 and 227. BVS d:8 or d:16: rule R911. -/
  | bvs (disp : BranchDisp)
  /-- 212 and 228. BPL d:8 or d:16: rule R912. -/
  | bpl (disp : BranchDisp)
  /-- 213 and 229. BMI d:8 or d:16: rule R913. -/
  | bmi (disp : BranchDisp)
  /-- 214 and 230. BGE d:8 or d:16: rule R914. -/
  | bge (disp : BranchDisp)
  /-- 215 and 231. BLT d:8 or d:16: rule R915. -/
  | blt (disp : BranchDisp)
  /-- 216 and 232. BGT d:8 or d:16: rule R916. -/
  | bgt (disp : BranchDisp)
  /-- 217 and 233. BLE d:8 or d:16: rule R917. -/
  | ble (disp : BranchDisp)
  /-- 234. JMP @ERn: rule R918. -/
  | jmpInd (rn : ErSel)
  /-- 235. JMP @aa:24: rule R918. -/
  | jmpAbs24 (abs : BitVec 24)
  /-- 236. JMP @@aa:8: rule R918. -/
  | jmpMemInd (abs : BitVec 8)
  /-- 237 and 238. BSR d:8 or d:16: rule R919. -/
  | bsr (disp : BranchDisp)
  /-- 239. JSR @ERn: rule R920. -/
  | jsrInd (rn : ErSel)
  /-- 240. JSR @aa:24: rule R920. -/
  | jsrAbs24 (abs : BitVec 24)
  /-- 241. JSR @@aa:8: rule R920. -/
  | jsrMemInd (abs : BitVec 8)
  /-- 242. RTS: rule R921. -/
  | rts
  -- System and CCR (`46_system.md`)
  /-- 243. LDC.B #xx:8,CCR: rule R1000. -/
  | ldcBImm (imm : BitVec 8)
  /-- 244. LDC.B Rs,CCR: rule R1000. -/
  | ldcBReg (rs : Sel)
  /-- 245. LDC.W @ERs,CCR: rule R1000. -/
  | ldcWInd (rs : ErSel)
  /-- 246. LDC.W @(d:16,ERs),CCR: rule R1000. -/
  | ldcWDisp16 (disp : BitVec 16) (rs : ErSel)
  /-- 247. LDC.W @(d:24,ERs),CCR: rule R1000. -/
  | ldcWDisp24 (disp : BitVec 24) (rs : ErSel)
  /-- 248. LDC.W @ERs+,CCR: rule R1000. -/
  | ldcWPostInc (rs : ErSel)
  /-- 249. LDC.W @aa:16,CCR: rule R1000. -/
  | ldcWAbs16 (abs : BitVec 16)
  /-- 250. LDC.W @aa:24,CCR: rule R1000. -/
  | ldcWAbs24 (abs : BitVec 24)
  /-- 251. STC.B CCR,Rd: rule R1001. -/
  | stcBReg (rd : Sel)
  /-- 252. STC.W CCR,@ERd: rule R1001. -/
  | stcWToInd (rd : ErSel)
  /-- 253. STC.W CCR,@(d:16,ERd): rule R1001. -/
  | stcWToDisp16 (disp : BitVec 16) (rd : ErSel)
  /-- 254. STC.W CCR,@(d:24,ERd): rule R1001. -/
  | stcWToDisp24 (disp : BitVec 24) (rd : ErSel)
  /-- 255. STC.W CCR,@-ERd: rule R1001. -/
  | stcWToPreDec (rd : ErSel)
  /-- 256. STC.W CCR,@aa:16: rule R1001. -/
  | stcWToAbs16 (abs : BitVec 16)
  /-- 257. STC.W CCR,@aa:24: rule R1001. -/
  | stcWToAbs24 (abs : BitVec 24)
  /-- 258. ANDC #xx:8,CCR: rule R1002. -/
  | andc (imm : BitVec 8)
  /-- 259. ORC #xx:8,CCR: rule R1003. -/
  | orc (imm : BitVec 8)
  /-- 260. XORC #xx:8,CCR: rule R1004. -/
  | xorc (imm : BitVec 8)
  /-- 264. TRAPA #x:2: rule R1008; not admitted (`30_encoding.md` rule R331). -/
  | trapa (imm : BitVec 2)
  /-- 261. NOP: rule R1005. -/
  | nop
  /-- 262. SLEEP: rule R1006. -/
  | sleep
  /-- 263. RTE: rule R1007. -/
  | rte
deriving DecidableEq, Repr

end Sys2Proof
end

