-- ==== Sys2Proof/Machine/State.lean ====
section
/-! DEFINITION. The state of the machine: every item of `10_state.md`, the host-visible outputs and the stop request,
as plain data; the fields that are the model's own; the reasons a step can stop; the state after reset. -/

namespace Sys2Proof.Machine

/-- A byte store: (address, byte) pairs, in the canonical form of `Memory.wfFor`. What an unlisted address reads as is an
argument of the operations of `Machine/Ops.lean`: 0x00 in memory (log 9), 0xFF in the EEPROM (log 10). -/
abbrev Memory := List Host.Cell

/-- The condition code register, flag by flag (`10_state.md` rule R120). All eight flags hold what was last written
(rule R121), so the register is these eight and nothing else; `Ccr.pack` is its byte. -/
structure Ccr where
  /-- bit 7, the interrupt mask -/
  i  : Bool
  /-- bit 6 -/
  ui : Bool
  /-- bit 5, half-carry -/
  h  : Bool
  /-- bit 4 -/
  u  : Bool
  /-- bit 3, negative -/
  n  : Bool
  /-- bit 2, zero -/
  z  : Bool
  /-- bit 1, overflow -/
  v  : Bool
  /-- bit 0, carry -/
  c  : Bool
deriving DecidableEq, Repr

/-- A reading of the host's wall clock (`60_exceptions.md` rule R1221). -/
structure WallClock where
  sec  : Fin 60
  min  : Fin 60
  hour : Fin 24
  day  : Fin 100
deriving DecidableEq, Repr

/-- The wall-clock fields that the RTC keeps from its previous tick (`60_exceptions.md` rule R1222). -/
structure RtcTime where
  sec  : Fin 60
  min  : Fin 60
  hour : Fin 24
deriving DecidableEq, Repr

/-- The states of the EEPROM's protocol (`60_exceptions.md` rule R1240). -/
inductive EepromState where
  | waiting
  | addrHigh
  | addrLow
  | readData
  | writeData
  | readStatus
deriving DecidableEq, Repr

/-- What the EEPROM's address is for (`60_exceptions.md` rule R1240). -/
inductive EepromKind where
  | read
  | write
deriving DecidableEq, Repr

/-- The EEPROM's protocol record (`60_exceptions.md` rule R1240). -/
structure Eeprom where
  state    : EepromState
  kind     : EepromKind
  address  : BitVec 16
  offset   : Nat
  progress : Fin 7
  status   : Byte
deriving DecidableEq, Repr

/-- The states of the accelerometer's protocol (`60_exceptions.md` rule R1244). -/
inductive AccelState where
  | waiting
  | data
deriving DecidableEq, Repr

/-- The accelerometer's protocol record (`60_exceptions.md` rule R1244). -/
structure Accel where
  state   : AccelState
  address : Byte
  offset  : Nat
deriving DecidableEq, Repr

/-- The states of the LCD controller's protocol (`60_exceptions.md` rule R1246). -/
inductive LcdState where
  | waiting
  | contrast
deriving DecidableEq, Repr

/-- The LCD controller's protocol record (`60_exceptions.md` rule R1246). -/
structure Lcd where
  state    : LcdState
  progress : Fin 7
  page     : BitVec 4
  column   : Byte
  offset   : Fin 2
  contrast : Byte
deriving DecidableEq, Repr

/-- The two timers (`60_exceptions.md` rule R1201). -/
inductive Timer where
  | b1
  | w
deriving DecidableEq, Repr

/-- The fatal conditions of `60_exceptions.md` rule R1102, with what each names. -/
inductive FaultKind where
  /-- code 1: the bytes at pc match no admitted row (`30_encoding.md` rules R330, R331). -/
  | decodeError
  /-- code 2: a running timer's prescale code has no divisor (rule R1201). -/
  | configError (timer : Timer) (code : Nat)
  /-- code 3: an accelerometer byte beyond its store (rule R1244). -/
  | accelOverrun (index : Nat)
  /-- code 4: an LCD byte beyond the framebuffer (rule R1246). -/
  | lcdRange (index : Nat)
deriving DecidableEq, Repr

/-- The fault record of `60_exceptions.md` rule R1101. `keys` is for DecodeError only. -/
structure FaultRecord where
  kind       : FaultKind
  keys       : Option DecodeKeys
  instrCount : Nat
  pc         : Addr
deriving DecidableEq, Repr

/-- The events of the output log (`60_exceptions.md` rule R1260). A framebuffer or an EEPROM is copied into its event as
the cells it is held in. -/
inductive Event where
  | irTx (b : Byte)
  /-- `Diagnostic(UnknownCommand, b)`, abnormal condition 5 of rule R1102. -/
  | unknownCommand (b : Byte)
  | lcdFrame (fb : Memory) (contrast : Byte)
  | audio (freq volume : Rat)
  | eepromSave (eepMem : Memory)
deriving DecidableEq, Repr

/-- The host inputs of `60_exceptions.md` rule R1141. A wall-clock reading is given ahead of the RTC's use of it
(log 13). -/
inductive HostInput where
  | pushKey (k : Byte)
  | irReceive (b : Byte)
  | wallReading (w : WallClock)
  | stop
deriving DecidableEq, Repr

/-- The machine. Fields down to `stopRequested` are the spec's; the rest are the MODEL's own, and `cfg` is the spec's
parameters (log 6). -/
structure State where
  /-- The OPEN parameters (`92_eei_decisions.md`, Parameters). No step changes them (log 6). -/
  cfg : Config
  /-- ER0-ER7 (`10_state.md` rule R100). ER7 is the stack pointer (R106). -/
  regs : Vector Long 8
  /-- The program counter (R110). -/
  pc : Addr
  /-- The condition code register (R120). -/
  ccr : Ccr
  /-- The 64 KB of memory (`20_memory.md` rule R200), the memory-mapped registers among them (`10_state.md` rule R140). -/
  mem : Memory
  /-- The CPU idles (R150). -/
  sleep : Bool
  /-- The saved context of an interrupt (R150). -/
  savedPC : Addr
  savedCCR : Byte
  /-- Instructions executed (R150). -/
  instrCount : Nat
  /-- The global cycle counter (R150). -/
  cycleIndex : Nat
  /-- The RTC's hidden state (R150). -/
  rtcInit : Bool
  rtcQuarter : Nat
  rtcPrev : RtcTime
  /-- The timers' prescale counters and Timer B1's load latch (R150). -/
  tb1Pre : Nat
  twPre : Nat
  tb1Load : Byte
  /-- The EEPROM and its 65536 bytes (R150). -/
  eep : Eeprom
  eepMem : Memory
  /-- The accelerometer and its `ACCEL_SIZE` bytes (R150). -/
  acc : Accel
  accMem : List Byte
  /-- The LCD controller and its framebuffer (R150). -/
  lcd : Lcd
  fb : Memory
  /-- The infrared receive queue, oldest first (R150). -/
  irRx : List Byte
  /-- The fault record, once a fatal condition is raised (R150). -/
  fault : Option FaultRecord
  /-- The output log, oldest first (R150). -/
  out : List Event
  /-- The host's stop request (`70_reset_and_hazards.md` rule R1302). -/
  stopRequested : Bool
  /-- MODEL: the run has ended by the stop request, and the EEPROM was saved (`70_reset_and_hazards.md` rules R1350,
  R1351; log 12). -/
  runEnded : Bool
  /-- MODEL: the host inputs to come, one list for each pass of the host loop (`60_exceptions.md` rule R1141; log 12). -/
  inputs : List (List HostInput)
  /-- MODEL: the latest wall-clock reading taken, and those to come (`60_exceptions.md` rule R1221; log 13). -/
  wallNow : WallClock
  wallQueue : List WallClock
  /-- MODEL: how many free values have been drawn (`00_scope.md` rule R15; log 5). -/
  draws : Nat
deriving DecidableEq, Repr

/-- Why a step can stop. No instruction stops with one. -/
inductive Fault where
  /-- A step was asked for after the run had ended by the stop request (`70_reset_and_hazards.md` rule R1350): raised by
  `Machine.step`. Safe: the spec gives the machine no step there (log 12). -/
  | runEnded
deriving DecidableEq, Repr

/-- Why a step can be refused. -/
inductive Refusal where
  /-- The instruction has no meaning in this model yet: raised by `Machine.exec`. Safe: nothing is claimed of it. -/
  | notModelled (mnemonic : String)
deriving DecidableEq, Repr

/-- The machine after construction from an empty image, no EEPROM image and the reference parameters
(`70_reset_and_hazards.md` rules R1301-R1303). pc is the reset vector of that image. The values the spec leaves
unspecified are the model's: logs 1 (ER0-ER7), 2 (the flags but I), 3 (the saved context), 4 (contrast, framebuffer,
rtcPrev), 7 (the parameters), 12 and 13 (inputs), 5 (draws). -/
def State.reset : State where
  cfg := Config.reference
  regs := #v[0, 0, 0, 0, 0, 0, 0, 0]
  pc := 0x0000
  ccr := ⟨true, false, false, false, false, false, false, false⟩
  mem := []
  sleep := false
  savedPC := 0x0000
  savedCCR := 0x00
  instrCount := 0
  cycleIndex := 0
  rtcInit := false
  rtcQuarter := 0
  rtcPrev := ⟨0, 0, 0⟩
  tb1Pre := 0
  twPre := 0
  tb1Load := 0x00
  eep := ⟨.waiting, .read, 0x0000, 0, 0, 0x00⟩
  eepMem := []
  acc := ⟨.waiting, 0x00, 0⟩
  accMem := Config.reference.accelInit
  lcd := ⟨.waiting, 0, 0, 0x00, 0, 0x00⟩
  fb := []
  irRx := []
  fault := none
  out := []
  stopRequested := false
  runEnded := false
  inputs := []
  wallNow := ⟨0, 0, 0, 0⟩
  wallQueue := []
  draws := 0

end Sys2Proof.Machine
end

