-- ==== Sys2Proof/Machine/Ops.lean ====
section
/-! DEFINITION. The named operations over registers and memory: the register views, hook-free accesses, the hooks, the
firmware's loads and stores, the stack, the draws, and taking an interrupt with the return from one beside it. -/

namespace Sys2Proof.Machine

/-! ### Byte stores -/

/-- The byte at an address; `dflt` where none is listed. -/
def Memory.read (dflt : Byte) : Memory → Nat → Byte
  | [], _ => dflt
  | (k, b) :: m, a => if k = a then b else Memory.read dflt m a

/-- The store without an entry for an address. -/
def Memory.erase : Memory → Nat → Memory
  | [], _ => []
  | (k, b) :: m, a => if k = a then Memory.erase m a else (k, b) :: Memory.erase m a

/-- The store with an entry put before the first greater address. -/
def Memory.insert : Memory → Nat → Byte → Memory
  | [], a, v => [(a, v)]
  | (k, b) :: m, a, v => if a < k then (a, v) :: (k, b) :: m else (k, b) :: Memory.insert m a v

/-- The store with `v` at an address. Writing what an unlisted address reads as removes the entry. -/
def Memory.write (dflt : Byte) (m : Memory) (a : Nat) (v : Byte) : Memory :=
  if v = dflt then m.erase a else (m.erase a).insert a v

/-- The canonical form, from an address on: addresses strictly rising and below `bound`, and no entry equal to what an
unlisted address reads as. -/
def Memory.wfFrom (dflt : Byte) (bound : Nat) : Nat → Memory → Bool
  | _, [] => true
  | low, (k, b) :: m => decide (low ≤ k) && decide (k < bound) && b != dflt && Memory.wfFrom dflt bound (k + 1) m

/-- The canonical form of a store of `bound` bytes. -/
def Memory.wfFor (dflt : Byte) (bound : Nat) (m : Memory) : Bool := Memory.wfFrom dflt bound 0 m

/-- What a byte of memory that is not listed reads as: the zero padding of the image (`70_reset_and_hazards.md` rule
R1301; log 9). -/
def Memory.unlisted : Byte := 0x00

/-- The canonical form of the 64 KB memory. -/
def Memory.wf (m : Memory) : Bool := m.wfFor Memory.unlisted 65536

/-! ### Registers (`10_state.md` §1) -/

/-- The register a selector names: its bits 2..0 (R101). -/
def selIndex (r : BitVec 4) : Fin 8 := ⟨r.toNat % 8, Nat.mod_lt _ (by decide)⟩

/-- `x[i]`. -/
def State.x (s : State) (i : Fin 8) : Long := s.regs[i]

/-- `x[i] <- v`. -/
def State.setX (s : State) (i : Fin 8) (v : Long) : State := { s with regs := s.regs.set i v }

/-- The high or low byte of a register's low half, by the selector's bit 3 (R102). -/
def byteOf (r : Sel) (w : Long) : Byte := if r.msb then w.extractLsb' 0 8 else w.extractLsb' 8 8

/-- A register with that byte replaced (R102). -/
def withByte (r : Sel) (w : Long) (v : Byte) : Long :=
  if r.msb then w.extractLsb' 8 24 ++ v else w.extractLsb' 16 16 ++ v ++ w.extractLsb' 0 8

/-- The low or high half of a register, by the selector's bit 3 (R103). -/
def halfOf (r : Sel) (w : Long) : Half := if r.msb then w.extractLsb' 16 16 else w.extractLsb' 0 16

/-- A register with that half replaced (R103). -/
def withHalf (r : Sel) (w : Long) (v : Half) : Long :=
  if r.msb then v ++ w.extractLsb' 0 16 else w.extractLsb' 16 16 ++ v

/-- `x8[r]` (R102). -/
def State.get8 (s : State) (r : Sel) : Byte := byteOf r (s.x (selIndex r))
/-- `x8[r] <- v` (R102). -/
def State.set8 (s : State) (r : Sel) (v : Byte) : State := s.setX (selIndex r) (withByte r (s.x (selIndex r)) v)
/-- `x16[r]` (R103). -/
def State.get16 (s : State) (r : Sel) : Half := halfOf r (s.x (selIndex r))
/-- `x16[r] <- v` (R103). -/
def State.set16 (s : State) (r : Sel) (v : Half) : State := s.setX (selIndex r) (withHalf r (s.x (selIndex r)) v)
/-- `x32[r]` (R104). -/
def State.get32 (s : State) (r : ErSel) : Long := s.x (selIndex r)
/-- `x32[r] <- v` (R104). -/
def State.set32 (s : State) (r : ErSel) (v : Long) : State := s.setX (selIndex r) v

/-- ER7, the stack pointer (R106). -/
def spIndex : Fin 8 := 7

/-! ### The condition code register (`10_state.md` rules R120, R121) -/

/-- The CCR as a byte: I, UI, H, U, N, Z, V, C from bit 7 down. -/
def Ccr.pack (c : Ccr) : Byte :=
  BitVec.ofBool c.i ++ BitVec.ofBool c.ui ++ BitVec.ofBool c.h ++ BitVec.ofBool c.u
    ++ BitVec.ofBool c.n ++ BitVec.ofBool c.z ++ BitVec.ofBool c.v ++ BitVec.ofBool c.c

/-- The CCR that a byte is. -/
def Ccr.ofByte (b : Byte) : Ccr :=
  ⟨b.getLsbD 7, b.getLsbD 6, b.getLsbD 5, b.getLsbD 4, b.getLsbD 3, b.getLsbD 2, b.getLsbD 1, b.getLsbD 0⟩

/-- `pc <- a`. -/
def State.setPc (s : State) (a : Addr) : State := { s with pc := a }

/-- A change of flags. -/
def State.setFlags (s : State) (f : Ccr → Ccr) : State := { s with ccr := f s.ccr }

/-! ### Hook-free accesses (`20_memory.md` rule R212) -/

/-- A byte with one bit made `v`. -/
def putBit (b : Byte) (k : BitVec 3) (v : Bool) : Byte :=
  if v then b ||| (1#8 <<< k.toNat) else b &&& ~~~(1#8 <<< k.toNat)

/-- The byte of memory at an address. -/
def Memory.byte (m : Memory) (a : Addr) : Byte := m.read Memory.unlisted a.toNat

/-- Memory with a byte replaced. -/
def Memory.setByte (m : Memory) (a : Addr) (b : Byte) : Memory := m.write Memory.unlisted a.toNat b

/-- Memory with a bit made `v`, by a read-modify-write of its byte. -/
def Memory.setBit (m : Memory) (f : BitLoc) (v : Bool) : Memory := m.setByte f.addr (putBit (m.byte f.addr) f.bit v)

/-- `Raw(a)`. -/
def State.raw (s : State) (a : Addr) : Byte := s.mem.byte a
/-- `Raw(a) <- b`. -/
def State.rawSet (s : State) (a : Addr) (b : Byte) : State := { s with mem := s.mem.setByte a b }
/-- `Raw16(a)`: the big-endian pair at a. -/
def State.raw16 (s : State) (a : Addr) : Half := s.raw a ++ s.raw (a + 1)
/-- `Raw16(a) <- v`. -/
def State.rawSet16 (s : State) (a : Addr) (v : Half) : State :=
  (s.rawSet a (v.extractLsb' 8 8)).rawSet (a + 1) (v.extractLsb' 0 8)

/-- `bit(F)` of `60_exceptions.md`. -/
def State.bit (s : State) (f : BitLoc) : Bool := (s.raw f.addr).getLsbD f.bit.toNat

/-- `setbit(F)` (`v` true) and `clrbit(F)` of `60_exceptions.md`. -/
def State.setBit (s : State) (f : BitLoc) (v : Bool) : State := { s with mem := s.mem.setBit f v }

/-- `field(F)` of `60_exceptions.md`. -/
def State.field (s : State) (f : FieldLoc) : Nat :=
  (s.raw f.addr).toNat / 2 ^ f.lo.toNat % 2 ^ (f.hi.toNat - f.lo.toNat + 1)

/-! ### Hooks (`20_memory.md` rules R210, R211)

The parameters of a valid `Config` give no address two handlers of one kind (`10_state.md` rule R141), but for a byte that
holds several chip-selects, which are tested each. Where the parameters are not valid the handlers run in the order below
(log 18). -/

/-- What a firmware read of `a` does to memory: the full flag is cleared (`60_exceptions.md` rules R1231, R1250). -/
def Memory.readHook (io : IoMap) (a : Addr) (m : Memory) : Memory :=
  let m₁ := if a = io.ssuRdr then m.setBit io.ssuRdrf false else m
  if a = io.sciRdr then m₁.setBit io.sciRdrf false else m₁

/-- What a firmware write to `a` does to other bytes of memory: the empty and end flags are cleared (`60_exceptions.md`
rules R1231, R1250). -/
def Memory.writeHook (io : IoMap) (a : Addr) (m : Memory) : Memory :=
  let m₁ := if a = io.ssuTdr then (m.setBit io.ssuTdre false).setBit io.ssuTend false else m
  if a = io.sciTdr then (m₁.setBit io.sciTdre false).setBit io.sciTend false else m₁

/-- `resetProtocol(EEPROM)` (`60_exceptions.md` rule R1237). -/
def Eeprom.protocolReset (e : Eeprom) : Eeprom := { e with state := .waiting, offset := 0, progress := 0 }
/-- `resetProtocol(ACCEL)`. -/
def Accel.protocolReset (a : Accel) : Accel := { a with state := .waiting, offset := 0 }
/-- `resetProtocol(LCD)`. -/
def Lcd.protocolReset (l : Lcd) : Lcd := { l with state := .waiting, offset := 0, progress := 0 }

/-- A write of `b` to `a` leaves the chip-select `cs` at its inactive level (`60_exceptions.md` rule R1237). -/
def deselects (cs : BitLoc) (active : Bool) (a : Addr) (b : Byte) : Bool :=
  decide (a = cs.addr) && b.getLsbD cs.bit.toNat != active

/-- The hook of a firmware read of `a`. -/
def State.readHook (s : State) (a : Addr) : State := { s with mem := s.mem.readHook s.cfg.io a }

/-- The hook of a firmware write of `b` to `a` (`60_exceptions.md` rules R1203, R1231, R1237, R1250). -/
def State.writeHook (s : State) (a : Addr) (b : Byte) : State :=
  { s with
    mem := s.mem.writeHook s.cfg.io a
    tb1Load := if a = s.cfg.io.tb1Cnt then b else s.tb1Load
    eep := if deselects s.cfg.io.csEeprom s.cfg.csEepromActive a b then s.eep.protocolReset else s.eep
    acc := if deselects s.cfg.io.csAccel s.cfg.csAccelActive a b then s.acc.protocolReset else s.acc
    lcd := if deselects s.cfg.io.csLcd s.cfg.csLcdActive a b then s.lcd.protocolReset else s.lcd }

/-! ### Firmware accesses (`20_memory.md` rules R204, R210, R213) -/

/-- `MemRead(a, 1)`: the byte, then its read hook. -/
def State.load8 (s : State) (a : Addr) : Byte × State := (s.raw a, s.readHook a)

/-- `MemWrite(a, 1, b)`: the byte is stored, then its write hook runs. -/
def State.store8 (s : State) (a : Addr) (b : Byte) : State := (s.rawSet a b).writeHook a b

/-- `MemRead(a, 2)`: two byte reads in increasing address order, big-endian. -/
def State.load16 (s : State) (a : Addr) : Half × State :=
  let r₀ := s.load8 a
  let r₁ := r₀.2.load8 (a + 1)
  (r₀.1 ++ r₁.1, r₁.2)

/-- `MemWrite(a, 2, v)`. -/
def State.store16 (s : State) (a : Addr) (v : Half) : State :=
  (s.store8 a (v.extractLsb' 8 8)).store8 (a + 1) (v.extractLsb' 0 8)

/-- `MemRead(a, 4)`: four byte reads in increasing address order, big-endian. -/
def State.load32 (s : State) (a : Addr) : Long × State :=
  let r₀ := s.load16 a
  let r₁ := r₀.2.load16 (a + 2)
  (r₀.1 ++ r₁.1, r₁.2)

/-- `MemWrite(a, 4, v)`. -/
def State.store32 (s : State) (a : Addr) (v : Long) : State :=
  (s.store16 a (v.extractLsb' 16 16)).store16 (a + 2) (v.extractLsb' 0 16)

/-! ### The stack (`20_memory.md` rule R220) -/

/-- `push16(v)`. -/
def State.push16 (s : State) (v : Half) : State :=
  let s := s.setX spIndex (s.x spIndex - 2)
  s.store16 ((s.x spIndex).setWidth 16) v

/-- `pop16()`. -/
def State.pop16 (s : State) : Half × State :=
  let r := s.load16 ((s.x spIndex).setWidth 16)
  (r.1, r.2.setX spIndex (r.2.x spIndex + 2))

/-! ### Draws (`00_scope.md` rule R15; log 5) -/

/-- `draw(Bool)`. -/
def State.drawBool (s : State) : Bool × State := (Config.freeBool s.draws, { s with draws := s.draws + 1 })
/-- `draw(8 bits)`. -/
def State.drawByte (s : State) : Byte × State := (Config.freeByte s.draws, { s with draws := s.draws + 1 })
/-- `draw(16 bits)`. -/
def State.drawHalf (s : State) : Half × State := (Config.freeHalf s.draws, { s with draws := s.draws + 1 })
/-- `draw(32 bits)`. -/
def State.drawLong (s : State) : Long × State := (Config.freeLong s.draws, { s with draws := s.draws + 1 })

/-! ### Outputs and fatal conditions -/

/-- `emit e` (`60_exceptions.md` rule R1260). -/
def State.emit (s : State) (e : Event) : State := { s with out := s.out ++ [e] }

/-- The code of a fatal condition (`60_exceptions.md` rule R1102). -/
def FaultKind.code : FaultKind → Nat
  | .decodeError => 1
  | .configError _ _ => 2
  | .accelOverrun _ => 3
  | .lcdRange _ => 4

/-- `raise`: the machine enters the Faulted state (`60_exceptions.md` rule R1101). -/
def State.raise (s : State) (kind : FaultKind) (keys : Option DecodeKeys) : State :=
  { s with fault := some ⟨kind, keys, s.instrCount, s.pc⟩ }

/-- The machine is in the Faulted state. -/
def State.faulted (s : State) : Bool := s.fault.isSome

/-! ### Interrupt entry and return -/

/-- `interrupt(vec)`: the one way an interrupt is taken (`60_exceptions.md` rule R1120). The vector entry is read
hook-free; nothing is pushed. -/
def State.interrupt (s : State) (vec : Addr) : State :=
  { s with
    savedPC := s.pc
    savedCCR := s.ccr.pack
    pc := s.raw16 vec
    ccr := { s.ccr with i := true }
    sleep := false }

/-- The return from an interrupt (`46_system.md` rule R1007, `60_exceptions.md` rule R1121). -/
def State.interruptReturn (s : State) : State := { s with pc := s.savedPC, ccr := Ccr.ofByte s.savedCCR }

end Sys2Proof.Machine
end

