-- ==== Sys2Proof/Machine/Flags.lean ====
section
/-! DEFINITION. Every flag computation of the spec, as a function from a CCR to a CCR. Each writes the flags it names and
leaves the others. `n` is the width of the operation (`10_state.md` §4). -/

namespace Sys2Proof.Machine

/-- `movFlags(v, n)` (`10_state.md` rule R130). -/
def movFlags {n : Nat} (v : BitVec n) (f : Ccr) : Ccr := { f with n := v.msb, z := v == 0, v := false }

/-- `incFlags(v, n)` (`10_state.md` rule R131). -/
def incFlags {n : Nat} (v : BitVec n) (f : Ccr) : Ccr :=
  let r := v + 1
  { f with n := r.msb, z := r == 0, v := v == BitVec.intMax n }

/-- `decFlags(v, n)` (`10_state.md` rule R132). -/
def decFlags {n : Nat} (v : BitVec n) (f : Ccr) : Ccr :=
  let r := v - 1
  { f with n := r.msb, z := r == 0, v := v == BitVec.intMin n }

/-- `inc2Flags(v, n)` (`41_arithmetic.md` rule R508). -/
def inc2Flags {n : Nat} (v : BitVec n) (f : Ccr) : Ccr :=
  let r := v + 2
  { f with n := r.msb, z := r == 0, v := !v.msb && r.msb }

/-- `dec2Flags(v, n)` (`41_arithmetic.md` rule R508). -/
def dec2Flags {n : Nat} (v : BitVec n) (f : Ccr) : Ccr :=
  let r := v - 2
  { f with n := r.msb, z := r == 0, v := v.msb && !r.msb }

/-- The low half of an operand, as a number: what the half-carry looks at (`10_state.md` rule R133). -/
def lowHalf {n : Nat} (v : BitVec n) : Nat := v.toNat % 2 ^ (n / 2)

/-- `addFlags(rd, rs, n)` (`10_state.md` rule R133). -/
def addFlags {n : Nat} (rd rs : BitVec n) (f : Ccr) : Ccr :=
  let r := rd + rs
  { f with
    h := decide (2 ^ (n / 2) ≤ lowHalf rd + lowHalf rs)
    n := r.msb
    z := r == 0
    v := (~~~(rd ^^^ rs) &&& (rd ^^^ r)).msb
    c := decide (2 ^ n ≤ rd.toNat + rs.toNat) }

/-- `subFlags(rd, rs, n)` (`10_state.md` rule R134). -/
def subFlags {n : Nat} (rd rs : BitVec n) (f : Ccr) : Ccr :=
  let r := rd - rs
  { f with
    h := decide (lowHalf rd < lowHalf rs)
    n := r.msb
    z := r == 0
    v := ((rd ^^^ rs) &&& (rd ^^^ r)).msb
    c := decide (rd.toNat < rs.toNat) }

/-- A carry as a number. -/
def carryNat (c : Bool) : Nat := if c then 1 else 0

/-- The result of ADDX: the sum with the incoming C (`41_arithmetic.md` rule R513). -/
def addxResult (a b : Byte) (c : Bool) : Byte := BitVec.ofNat 8 (a.toNat + b.toNat + carryNat c)

/-- The flags of ADDX, Z sticky (`41_arithmetic.md` rules R506, R513). -/
def addxFlags (a b : Byte) (f : Ccr) : Ccr :=
  let r := addxResult a b f.c
  { f with
    h := decide (16 ≤ lowHalf a + lowHalf b + carryNat f.c)
    n := r.msb
    z := f.z && r == 0
    v := (~~~(a ^^^ b) &&& (a ^^^ r)).msb
    c := decide (256 ≤ a.toNat + b.toNat + carryNat f.c) }

/-- The result of SUBX: the difference less the incoming C (`41_arithmetic.md` rule R522). -/
def subxResult (a b : Byte) (c : Bool) : Byte := a - b - BitVec.ofNat 8 (carryNat c)

/-- The flags of SUBX, Z sticky (`41_arithmetic.md` rules R506, R522). -/
def subxFlags (a b : Byte) (f : Ccr) : Ccr :=
  let r := subxResult a b f.c
  { f with
    h := decide (lowHalf a < lowHalf b + carryNat f.c)
    n := r.msb
    z := f.z && r == 0
    v := ((a ^^^ b) &&& (a ^^^ r)).msb
    c := decide (a.toNat < b.toNat + carryNat f.c) }

/-- The flags of MULXS: N and Z of the exact product (`41_arithmetic.md` rules R536, R537). -/
def mulxsFlags (p : Int) (f : Ccr) : Ccr := { f with n := decide (p < 0), z := decide (p = 0) }

/-- The flags of DIVXU: N and Z of the divisor (`41_arithmetic.md` rules R538, R539). -/
def divxuFlags {m : Nat} (divisor : BitVec m) (f : Ccr) : Ccr := { f with n := divisor.msb, z := divisor == 0 }

/-- The flags of DIVXS: Z of the divisor, N as the rule finds it (`41_arithmetic.md` rules R540, R541). -/
def divxsFlags {m : Nat} (divisor : BitVec m) (neg : Bool) (f : Ccr) : Ccr := { f with n := neg, z := divisor == 0 }

/-- The flags of EXTU (`41_arithmetic.md` rules R542, R543). -/
def extuFlags {n : Nat} (r : BitVec n) (f : Ccr) : Ccr := { f with n := false, z := r == 0, v := false }

/-- The flags of DAA and DAS: N and Z of the result, and the C, H and V that the rule finds or draws
(`41_arithmetic.md` rules R518, R527). -/
def decimalFlags (r : Byte) (c h v : Bool) (f : Ccr) : Ccr :=
  { f with h := h, n := r.msb, z := r == 0, v := v, c := c }

/-- The flags of a shift or rotate: C the bit shifted out, V as the rule gives it, N and Z of the result
(`43_shift.md` rules R700, R701). -/
def shiftFlags {n : Nat} (r : BitVec n) (c v : Bool) (f : Ccr) : Ccr :=
  { f with n := r.msb, z := r == 0, v := v, c := c }

/-- The flags of BTST: Z is the complement of the tested bit (`44_bit.md` rule R805). -/
def btstFlags (b : Bool) (f : Ccr) : Ccr := { f with z := !b }

/-- A new C and nothing else: the bit instructions of `44_bit.md` rules R806, R807 and R810-R815. -/
def carryFlag (c : Bool) (f : Ccr) : Ccr := { f with c := c }

end Sys2Proof.Machine
end

