-- ==== Sys2Proof/Machine/Operands.lean ====
section
/-! DEFINITION. The operand forms of the spec: the three operand sizes, the effective addresses, and the bit number and
byte operand of the bit instructions. -/

namespace Sys2Proof.Machine

/-- An operand size (`40_data_transfer.md` rules R400, R401): the register view and the memory access of its width. -/
structure View (n : Nat) where
  /-- `sz` of rule R400, in bytes. -/
  bytes : BitVec 32
  get   : State → BitVec 4 → BitVec n
  set   : State → BitVec 4 → BitVec n → State
  load  : State → Addr → BitVec n × State
  store : State → Addr → BitVec n → State

/-- `.B`: `x8` and one byte. -/
def vB : View 8 := ⟨1, State.get8, State.set8, State.load8, State.store8⟩
/-- `.W`: `x16` and two bytes. -/
def vW : View 16 := ⟨2, State.get16, State.set16, State.load16, State.store16⟩
/-- `.L`: `x32` and four bytes. -/
def vL : View 32 := ⟨4, State.get32, State.set32, State.load32, State.store32⟩

/-! ### Effective addresses -/

/-- `@ERn` (`40_data_transfer.md` rule R402). -/
def eaInd (s : State) (r : ErSel) : Addr := (s.x (selIndex r)).setWidth 16
/-- `@(d:16,ERn)`: a signed displacement (`40_data_transfer.md` rule R403). -/
def eaDisp16 (s : State) (disp : BitVec 16) (r : ErSel) : Addr :=
  (s.x (selIndex r) + disp.signExtend 32).setWidth 16
/-- `@(d:24,ERn)`: a signed displacement (`40_data_transfer.md` rule R404). -/
def eaDisp24 (s : State) (disp : BitVec 24) (r : ErSel) : Addr :=
  (s.x (selIndex r) + disp.signExtend 32).setWidth 16
/-- `@aa:8`: the top 256 bytes (`40_data_transfer.md` rule R407). -/
def eaAbs8 (abs : BitVec 8) : Addr := 0xFF00 + abs.setWidth 16
/-- `@aa:16` (`40_data_transfer.md` rule R408). -/
def eaAbs16 (abs : BitVec 16) : Addr := abs
/-- `@aa:24`: the upper 8 address bits are ignored (`40_data_transfer.md` rule R409). -/
def eaAbs24 (abs : BitVec 24) : Addr := abs.setWidth 16
/-- The address `@-ERn` stores to: the low half of the decremented register (`40_data_transfer.md` rule R406). -/
def eaPreDec (s : State) (bytes : BitVec 32) (r : ErSel) : Addr := (s.x (selIndex r) - bytes).setWidth 16
/-- The pointer of `@@aa:8`, in the vector-table region (`20_memory.md` rule R217). -/
def eaMemInd (abs : BitVec 8) : Addr := abs.setWidth 16

/-- The target of a branch at `pc` (`45_branch.md` rule R901): from the address of the next instruction. -/
def branchTarget (pc : Addr) : BranchDisp → Addr
  | .d8 disp => pc + 2 + disp.signExtend 16
  | .d16 disp => pc + 4 + disp

/-- The address of the instruction after a branch at `pc`. -/
def branchNext (pc : Addr) : BranchDisp → Addr
  | .d8 _ => pc + 2
  | .d16 _ => pc + 4

/-! ### Bit operands (`44_bit.md` rule R800) -/

/-- The bit number that a register gives: its low three bits. -/
def bitNumber (s : State) (rn : Sel) : BitVec 3 := (s.get8 rn).extractLsb' 0 3

/-- Bit k of a byte. -/
def bitOf (b : Byte) (k : BitVec 3) : Bool := b.getLsbD k.toNat

end Sys2Proof.Machine
end

