-- ==== Sys2Proof/Machine/Arithmetic.lean ====
section
/-! DEFINITION. The arithmetic instructions (`41_arithmetic.md`). Operands are read before any result is written (rule
R505). -/

namespace Sys2Proof.Machine

/-- ADD (rules R510-R512). -/
def addTo {n : Nat} (v : View n) (rd : BitVec 4) (b : BitVec n) (s : State) : State :=
  let a := v.get s rd
  (v.set s rd (a + b)).setFlags (addFlags a b)

/-- SUB (rules R519-R521). -/
def subFrom {n : Nat} (v : View n) (rd : BitVec 4) (b : BitVec n) (s : State) : State :=
  let a := v.get s rd
  (v.set s rd (a - b)).setFlags (subFlags a b)

/-- CMP: flags only (rules R509, R531-R533). -/
def compare {n : Nat} (v : View n) (rd : BitVec 4) (b : BitVec n) (s : State) : State :=
  s.setFlags (subFlags (v.get s rd) b)

/-- ADDX (rule R513). -/
def addxTo (rd : Sel) (b : Byte) (s : State) : State :=
  let a := s.get8 rd
  (s.set8 rd (addxResult a b s.ccr.c)).setFlags (addxFlags a b)

/-- SUBX (rule R522). -/
def subxFrom (rd : Sel) (b : Byte) (s : State) : State :=
  let a := s.get8 rd
  (s.set8 rd (subxResult a b s.ccr.c)).setFlags (subxFlags a b)

/-- INC and DEC by `k`, with their flag function (rules R515-R517, R524-R526). -/
def stepBy {n : Nat} (v : View n) (rd : BitVec 4) (flags : BitVec n → Ccr → Ccr) (k : BitVec n) (s : State) : State :=
  let a := v.get s rd
  (v.set s rd (a + k)).setFlags (flags a)

/-- NEG (rules R528-R530). -/
def negate {n : Nat} (v : View n) (rd : BitVec 4) (s : State) : State :=
  let a := v.get s rd
  (v.set s rd (0 - a)).setFlags (subFlags 0 a)

/-- A row of the tables of DAA and DAS (rules R518, R527): C in, the range of the high nibble, H in, the range of the
low nibble, the value added and C out. -/
structure DecimalRow where
  cIn  : Bool
  hiLo : Nat
  hiHi : Nat
  hIn  : Bool
  loLo : Nat
  loHi : Nat
  add  : Byte
  cOut : Bool
deriving DecidableEq, Repr

/-- A row applies to a value under given C and H. -/
def DecimalRow.covers (r : DecimalRow) (v : Byte) (c h : Bool) : Bool :=
  r.cIn == c && r.hIn == h
    && decide (r.hiLo ≤ (hiNib v).toNat) && decide ((hiNib v).toNat ≤ r.hiHi)
    && decide (r.loLo ≤ (loNib v).toNat) && decide ((loNib v).toNat ≤ r.loHi)

/-- The table of rule R518. -/
def daaTable : List DecimalRow :=
  [⟨false, 0x0, 0x9, false, 0x0, 0x9, 0x00, false⟩,
   ⟨false, 0x0, 0x8, false, 0xA, 0xF, 0x06, false⟩,
   ⟨false, 0x0, 0x9, true, 0x0, 0x3, 0x06, false⟩,
   ⟨false, 0xA, 0xF, false, 0x0, 0x9, 0x60, true⟩,
   ⟨false, 0x9, 0xF, false, 0xA, 0xF, 0x66, true⟩,
   ⟨false, 0xA, 0xF, true, 0x0, 0x3, 0x66, true⟩,
   ⟨true, 0x0, 0x2, false, 0x0, 0x9, 0x60, true⟩,
   ⟨true, 0x0, 0x2, false, 0xA, 0xF, 0x66, true⟩,
   ⟨true, 0x0, 0x3, true, 0x0, 0x3, 0x66, true⟩]

/-- The table of rule R527. -/
def dasTable : List DecimalRow :=
  [⟨false, 0x0, 0x9, false, 0x0, 0x9, 0x00, false⟩,
   ⟨false, 0x0, 0x8, true, 0x6, 0xF, 0xFA, false⟩,
   ⟨true, 0x7, 0xF, false, 0x0, 0x9, 0xA0, true⟩,
   ⟨true, 0x6, 0xF, true, 0x6, 0xF, 0x9A, true⟩]

/-- The end of DAA and DAS: the result and C are known, H and V are drawn in that order (rules R518, R527; log 21). -/
def decimalFinish (rd : Sel) (r : Byte) (c : Bool) (s : State) : State :=
  let h := s.drawBool
  let v := h.2.drawBool
  (v.2.set8 rd r).setFlags (decimalFlags r c h.1 v.1)

/-- DAA and DAS, by their table: the first row that covers the input, or draws (rules R518, R527; log 21). -/
def decimalAdjust (table : List DecimalRow) (rd : Sel) (s : State) : State :=
  let v := s.get8 rd
  match table.find? (fun r => r.covers v s.ccr.c s.ccr.h) with
  | some row => decimalFinish rd (v + row.add) row.cOut s
  | none =>
    let r := s.drawByte
    let c := r.2.drawBool
    decimalFinish rd r.1 c.1 c.2

/-- MULXU: the low half of Rd times Rs, unsigned; no flags (rules R504, R534, R535). -/
def multiplyU {m : Nat} (dst : View (m + m)) (src : View m) (rs rd : BitVec 4) (s : State) : State :=
  let p := ((dst.get s rd).setWidth m).toNat * (src.get s rs).toNat
  dst.set s rd (BitVec.ofNat (m + m) p)

/-- MULXS: the low half of Rd times Rs, signed (rules R504, R536, R537). -/
def multiplyS {m : Nat} (dst : View (m + m)) (src : View m) (rs rd : BitVec 4) (s : State) : State :=
  let p := ((dst.get s rd).setWidth m).toInt * (src.get s rs).toInt
  (dst.set s rd (BitVec.ofInt (m + m) p)).setFlags (mulxsFlags p)

/-- DIVXU: remainder in the high half, quotient in the low half; a zero divisor and a quotient that does not fit draw
the destination (rules R503, R538, R539; log 20). -/
def divideU {m : Nat} (dst : View (m + m)) (src : View m) (draw : State → BitVec (m + m) × State) (rs rd : BitVec 4)
    (s : State) : State :=
  let D := (dst.get s rd).toNat
  let S := src.get s rs
  let s₁ := s.setFlags (divxuFlags S)
  if S.toNat = 0 ∨ 2 ^ m ≤ D / S.toNat then
    let r := draw s₁
    dst.set r.2 rd r.1
  else dst.set s₁ rd (BitVec.ofNat m (D % S.toNat) ++ BitVec.ofNat m (D / S.toNat))

/-- DIVXS: the quotient truncated toward zero, the remainder with the dividend's sign; a zero divisor and a quotient
that does not fit draw the destination and N; a zero quotient of operands whose signs differ draws N (rules R503, R540,
R541; log 20). -/
def divideS {m : Nat} (dst : View (m + m)) (src : View m) (draw : State → BitVec (m + m) × State) (rs rd : BitVec 4)
    (s : State) : State :=
  let D := (dst.get s rd).toInt
  let S := src.get s rs
  let q := D.tdiv S.toInt
  if S.toInt = 0 ∨ q < -(2 ^ (m - 1)) ∨ 2 ^ (m - 1) ≤ q then
    let r := draw s
    let g := r.2.drawBool
    (dst.set g.2 rd r.1).setFlags (divxsFlags S g.1)
  else
    let val := BitVec.ofInt m (D.tmod S.toInt) ++ BitVec.ofInt m q
    if q = 0 ∧ decide (D < 0) ≠ decide (S.toInt < 0) then
      let g := s.drawBool
      (dst.set g.2 rd val).setFlags (divxsFlags S g.1)
    else (dst.set s rd val).setFlags (divxsFlags S (decide (q < 0)))

/-- EXTU from `m` bits (rules R542, R543). -/
def extendU {n : Nat} (v : View n) (m : Nat) (rd : BitVec 4) (s : State) : State :=
  let r := ((v.get s rd).setWidth m).setWidth n
  (v.set s rd r).setFlags (extuFlags r)

/-- EXTS from `m` bits (rules R544, R545). -/
def extendS {n : Nat} (v : View n) (m : Nat) (rd : BitVec 4) (s : State) : State :=
  let r := ((v.get s rd).setWidth m).signExtend n
  (v.set s rd r).setFlags (movFlags r)

/-! ### The instructions -/

/-- ADD.B #xx:8,Rd: rule R510. -/
def execAddBImm (imm : BitVec 8) (rd : Sel) (s : State) : Host.Outcome State Fault Refusal :=
  .next (addTo vB rd imm s)

/-- ADD.B Rs,Rd: rule R510. -/
def execAddBReg (rs : Sel) (rd : Sel) (s : State) : Host.Outcome State Fault Refusal :=
  .next (addTo vB rd (vB.get s rs) s)

/-- ADD.W #xx:16,Rd: rule R511. -/
def execAddWImm (imm : BitVec 16) (rd : Sel) (s : State) : Host.Outcome State Fault Refusal :=
  .next (addTo vW rd imm s)

/-- ADD.W Rs,Rd: rule R511. -/
def execAddWReg (rs : Sel) (rd : Sel) (s : State) : Host.Outcome State Fault Refusal :=
  .next (addTo vW rd (vW.get s rs) s)

/-- ADD.L #xx:32,ERd: rule R512. -/
def execAddLImm (imm : BitVec 32) (rd : ErSel) (s : State) : Host.Outcome State Fault Refusal :=
  .next (addTo vL rd imm s)

/-- ADD.L ERs,ERd: rule R512. -/
def execAddLReg (rs : ErSel) (rd : ErSel) (s : State) : Host.Outcome State Fault Refusal :=
  .next (addTo vL rd (vL.get s rs) s)

/-- ADDX #xx:8,Rd: rule R513. -/
def execAddxImm (imm : BitVec 8) (rd : Sel) (s : State) : Host.Outcome State Fault Refusal := .next (addxTo rd imm s)

/-- ADDX Rs,Rd: rule R513. -/
def execAddxReg (rs : Sel) (rd : Sel) (s : State) : Host.Outcome State Fault Refusal :=
  .next (addxTo rd (s.get8 rs) s)

/-- ADDS #1,ERd: rule R514. -/
def execAdds1 (rd : ErSel) (s : State) : Host.Outcome State Fault Refusal := .next (s.set32 rd (s.get32 rd + 1))

/-- ADDS #2,ERd: rule R514. -/
def execAdds2 (rd : ErSel) (s : State) : Host.Outcome State Fault Refusal := .next (s.set32 rd (s.get32 rd + 2))

/-- ADDS #4,ERd: rule R514. -/
def execAdds4 (rd : ErSel) (s : State) : Host.Outcome State Fault Refusal := .next (s.set32 rd (s.get32 rd + 4))

/-- INC.B Rd: rule R515. -/
def execIncB (rd : Sel) (s : State) : Host.Outcome State Fault Refusal := .next (stepBy vB rd incFlags (1) s)

/-- INC.W #1,Rd: rule R516. -/
def execIncW1 (rd : Sel) (s : State) : Host.Outcome State Fault Refusal := .next (stepBy vW rd incFlags (1) s)

/-- INC.W #2,Rd: rule R516. -/
def execIncW2 (rd : Sel) (s : State) : Host.Outcome State Fault Refusal := .next (stepBy vW rd inc2Flags (2) s)

/-- INC.L #1,ERd: rule R517. -/
def execIncL1 (rd : ErSel) (s : State) : Host.Outcome State Fault Refusal := .next (stepBy vL rd incFlags (1) s)

/-- INC.L #2,ERd: rule R517. -/
def execIncL2 (rd : ErSel) (s : State) : Host.Outcome State Fault Refusal := .next (stepBy vL rd inc2Flags (2) s)

/-- DAA Rd: rule R518. -/
def execDaa (rd : Sel) (s : State) : Host.Outcome State Fault Refusal := .next (decimalAdjust daaTable rd s)

/-- SUB.B Rs,Rd: rule R519. -/
def execSubBReg (rs : Sel) (rd : Sel) (s : State) : Host.Outcome State Fault Refusal :=
  .next (subFrom vB rd (vB.get s rs) s)

/-- SUB.W #xx:16,Rd: rule R520. -/
def execSubWImm (imm : BitVec 16) (rd : Sel) (s : State) : Host.Outcome State Fault Refusal :=
  .next (subFrom vW rd imm s)

/-- SUB.W Rs,Rd: rule R520. -/
def execSubWReg (rs : Sel) (rd : Sel) (s : State) : Host.Outcome State Fault Refusal :=
  .next (subFrom vW rd (vW.get s rs) s)

/-- SUB.L #xx:32,ERd: rule R521. -/
def execSubLImm (imm : BitVec 32) (rd : ErSel) (s : State) : Host.Outcome State Fault Refusal :=
  .next (subFrom vL rd imm s)

/-- SUB.L ERs,ERd: rule R521. -/
def execSubLReg (rs : ErSel) (rd : ErSel) (s : State) : Host.Outcome State Fault Refusal :=
  .next (subFrom vL rd (vL.get s rs) s)

/-- SUBX #xx:8,Rd: rule R522. -/
def execSubxImm (imm : BitVec 8) (rd : Sel) (s : State) : Host.Outcome State Fault Refusal :=
  .next (subxFrom rd imm s)

/-- SUBX Rs,Rd: rule R522. -/
def execSubxReg (rs : Sel) (rd : Sel) (s : State) : Host.Outcome State Fault Refusal :=
  .next (subxFrom rd (s.get8 rs) s)

/-- SUBS #1,ERd: rule R523. -/
def execSubs1 (rd : ErSel) (s : State) : Host.Outcome State Fault Refusal := .next (s.set32 rd (s.get32 rd - 1))

/-- SUBS #2,ERd: rule R523. -/
def execSubs2 (rd : ErSel) (s : State) : Host.Outcome State Fault Refusal := .next (s.set32 rd (s.get32 rd - 2))

/-- SUBS #4,ERd: rule R523. -/
def execSubs4 (rd : ErSel) (s : State) : Host.Outcome State Fault Refusal := .next (s.set32 rd (s.get32 rd - 4))

/-- DEC.B Rd: rule R524. -/
def execDecB (rd : Sel) (s : State) : Host.Outcome State Fault Refusal := .next (stepBy vB rd decFlags (-1) s)

/-- DEC.W #1,Rd: rule R525. -/
def execDecW1 (rd : Sel) (s : State) : Host.Outcome State Fault Refusal := .next (stepBy vW rd decFlags (-1) s)

/-- DEC.W #2,Rd: rule R525. -/
def execDecW2 (rd : Sel) (s : State) : Host.Outcome State Fault Refusal := .next (stepBy vW rd dec2Flags (-2) s)

/-- DEC.L #1,ERd: rule R526. -/
def execDecL1 (rd : ErSel) (s : State) : Host.Outcome State Fault Refusal := .next (stepBy vL rd decFlags (-1) s)

/-- DEC.L #2,ERd: rule R526. -/
def execDecL2 (rd : ErSel) (s : State) : Host.Outcome State Fault Refusal := .next (stepBy vL rd dec2Flags (-2) s)

/-- DAS Rd: rule R527. -/
def execDas (rd : Sel) (s : State) : Host.Outcome State Fault Refusal := .next (decimalAdjust dasTable rd s)

/-- NEG.B Rd: rule R528. -/
def execNegB (rd : Sel) (s : State) : Host.Outcome State Fault Refusal := .next (negate vB rd s)

/-- NEG.W Rd: rule R529. -/
def execNegW (rd : Sel) (s : State) : Host.Outcome State Fault Refusal := .next (negate vW rd s)

/-- NEG.L ERd: rule R530. -/
def execNegL (rd : ErSel) (s : State) : Host.Outcome State Fault Refusal := .next (negate vL rd s)

/-- CMP.B #xx:8,Rd: rule R531. -/
def execCmpBImm (imm : BitVec 8) (rd : Sel) (s : State) : Host.Outcome State Fault Refusal :=
  .next (compare vB rd imm s)

/-- CMP.B Rs,Rd: rule R531. -/
def execCmpBReg (rs : Sel) (rd : Sel) (s : State) : Host.Outcome State Fault Refusal :=
  .next (compare vB rd (vB.get s rs) s)

/-- CMP.W #xx:16,Rd: rule R532. -/
def execCmpWImm (imm : BitVec 16) (rd : Sel) (s : State) : Host.Outcome State Fault Refusal :=
  .next (compare vW rd imm s)

/-- CMP.W Rs,Rd: rule R532. -/
def execCmpWReg (rs : Sel) (rd : Sel) (s : State) : Host.Outcome State Fault Refusal :=
  .next (compare vW rd (vW.get s rs) s)

/-- CMP.L #xx:32,ERd: rule R533. -/
def execCmpLImm (imm : BitVec 32) (rd : ErSel) (s : State) : Host.Outcome State Fault Refusal :=
  .next (compare vL rd imm s)

/-- CMP.L ERs,ERd: rule R533. -/
def execCmpLReg (rs : ErSel) (rd : ErSel) (s : State) : Host.Outcome State Fault Refusal :=
  .next (compare vL rd (vL.get s rs) s)

/-- MULXU.B Rs,Rd: rule R534. -/
def execMulxuB (rs : Sel) (rd : Sel) (s : State) : Host.Outcome State Fault Refusal :=
  .next (multiplyU (m := 8) vW vB rs rd s)

/-- MULXU.W Rs,ERd: rule R535. -/
def execMulxuW (rs : Sel) (rd : ErSel) (s : State) : Host.Outcome State Fault Refusal :=
  .next (multiplyU (m := 16) vL vW rs rd s)

/-- MULXS.B Rs,Rd: rule R536. -/
def execMulxsB (rs : Sel) (rd : Sel) (s : State) : Host.Outcome State Fault Refusal :=
  .next (multiplyS (m := 8) vW vB rs rd s)

/-- MULXS.W Rs,ERd: rule R537. -/
def execMulxsW (rs : Sel) (rd : ErSel) (s : State) : Host.Outcome State Fault Refusal :=
  .next (multiplyS (m := 16) vL vW rs rd s)

/-- DIVXU.B Rs,Rd: rule R538. -/
def execDivxuB (rs : Sel) (rd : Sel) (s : State) : Host.Outcome State Fault Refusal :=
  .next (divideU (m := 8) vW vB State.drawHalf rs rd s)

/-- DIVXU.W Rs,ERd: rule R539. -/
def execDivxuW (rs : Sel) (rd : ErSel) (s : State) : Host.Outcome State Fault Refusal :=
  .next (divideU (m := 16) vL vW State.drawLong rs rd s)

/-- DIVXS.B Rs,Rd: rule R540. -/
def execDivxsB (rs : Sel) (rd : Sel) (s : State) : Host.Outcome State Fault Refusal :=
  .next (divideS (m := 8) vW vB State.drawHalf rs rd s)

/-- DIVXS.W Rs,ERd: rule R541. -/
def execDivxsW (rs : Sel) (rd : ErSel) (s : State) : Host.Outcome State Fault Refusal :=
  .next (divideS (m := 16) vL vW State.drawLong rs rd s)

/-- EXTU.W Rd: rule R542. -/
def execExtuW (rd : Sel) (s : State) : Host.Outcome State Fault Refusal := .next (extendU vW 8 rd s)

/-- EXTU.L ERd: rule R543. -/
def execExtuL (rd : ErSel) (s : State) : Host.Outcome State Fault Refusal := .next (extendU vL 16 rd s)

/-- EXTS.W Rd: rule R544. -/
def execExtsW (rd : Sel) (s : State) : Host.Outcome State Fault Refusal := .next (extendS vW 8 rd s)

/-- EXTS.L ERd: rule R545. -/
def execExtsL (rd : ErSel) (s : State) : Host.Outcome State Fault Refusal := .next (extendS vL 16 rd s)

end Sys2Proof.Machine
end

