-- ==== Sys2Proof/Machine/Bit.lean ====
section
/-! DEFINITION. The bit-manipulation instructions (`44_bit.md`). -/

namespace Sys2Proof.Machine

/-- BSET's change of a byte (rule R802). -/
def setBitOf (k : BitVec 3) (b : Byte) : Byte := b ||| (1#8 <<< k.toNat)
/-- BCLR's change of a byte (rule R803). -/
def clearBitOf (k : BitVec 3) (b : Byte) : Byte := b &&& ~~~(1#8 <<< k.toNat)
/-- BNOT's change of a byte (rule R804). -/
def invertBitOf (k : BitVec 3) (b : Byte) : Byte := b ^^^ (1#8 <<< k.toNat)
/-- The change of a byte of BST and BIST (rules R808, R809). -/
def storeBitOf (k : BitVec 3) (c : Bool) (b : Byte) : Byte := putBit b k c

/-- A bit instruction that modifies a register byte. -/
def modifyReg (g : Byte → Byte) (rd : Sel) (s : State) : State := s.set8 rd (g (s.get8 rd))

/-- A bit instruction that modifies a memory byte: it reads it and always writes it (rule R801). -/
def modifyMem (g : Byte → Byte) (a : Addr) (s : State) : State :=
  let b := s.load8 a
  b.2.store8 a (g b.1)

/-- BTST of a register (rule R805). -/
def testRegBit (k : BitVec 3) (rd : Sel) (s : State) : State := s.setFlags (btstFlags (bitOf (s.get8 rd) k))

/-- BTST of a memory byte (rule R805). -/
def testMemBit (k : BitVec 3) (a : Addr) (s : State) : State :=
  let b := s.load8 a
  b.2.setFlags (btstFlags (bitOf b.1 k))

/-- A new C from the old C and a register's bit (rules R806, R807, R810-R815). -/
def carryFromReg (op : Bool → Bool → Bool) (k : BitVec 3) (rd : Sel) (s : State) : State :=
  s.setFlags (fun f => carryFlag (op f.c (bitOf (s.get8 rd) k)) f)

/-- A new C from the old C and a memory byte's bit (rules R806, R807, R810-R815). -/
def carryFromMem (op : Bool → Bool → Bool) (k : BitVec 3) (a : Addr) (s : State) : State :=
  let b := s.load8 a
  b.2.setFlags (fun f => carryFlag (op f.c (bitOf b.1 k)) f)

/-! ### The instructions -/

/-- BSET #xx:3,Rd: rule R802. -/
def execBsetImmReg (imm : BitVec 3) (rd : Sel) (s : State) : Host.Outcome State Fault Refusal :=
  .next (modifyReg (setBitOf imm) rd s)

/-- BSET Rn,Rd: rule R802. -/
def execBsetRegReg (rn : Sel) (rd : Sel) (s : State) : Host.Outcome State Fault Refusal :=
  .next (modifyReg (setBitOf (bitNumber s rn)) rd s)

/-- BSET #xx:3,@ERd: rule R802. -/
def execBsetImmInd (imm : BitVec 3) (rd : ErSel) (s : State) : Host.Outcome State Fault Refusal :=
  .next (modifyMem (setBitOf imm) (eaInd s rd) s)

/-- BSET Rn,@ERd: rule R802. -/
def execBsetRegInd (rn : Sel) (rd : ErSel) (s : State) : Host.Outcome State Fault Refusal :=
  .next (modifyMem (setBitOf (bitNumber s rn)) (eaInd s rd) s)

/-- BSET #xx:3,@aa:8: rule R802. -/
def execBsetImmAbs8 (imm : BitVec 3) (abs : BitVec 8) (s : State) : Host.Outcome State Fault Refusal :=
  .next (modifyMem (setBitOf imm) (eaAbs8 abs) s)

/-- BSET Rn,@aa:8: rule R802. -/
def execBsetRegAbs8 (rn : Sel) (abs : BitVec 8) (s : State) : Host.Outcome State Fault Refusal :=
  .next (modifyMem (setBitOf (bitNumber s rn)) (eaAbs8 abs) s)

/-- BNOT #xx:3,Rd: rule R804. -/
def execBnotImmReg (imm : BitVec 3) (rd : Sel) (s : State) : Host.Outcome State Fault Refusal :=
  .next (modifyReg (invertBitOf imm) rd s)

/-- BNOT Rn,Rd: rule R804. -/
def execBnotRegReg (rn : Sel) (rd : Sel) (s : State) : Host.Outcome State Fault Refusal :=
  .next (modifyReg (invertBitOf (bitNumber s rn)) rd s)

/-- BNOT #xx:3,@ERd: rule R804. -/
def execBnotImmInd (imm : BitVec 3) (rd : ErSel) (s : State) : Host.Outcome State Fault Refusal :=
  .next (modifyMem (invertBitOf imm) (eaInd s rd) s)

/-- BNOT Rn,@ERd: rule R804. -/
def execBnotRegInd (rn : Sel) (rd : ErSel) (s : State) : Host.Outcome State Fault Refusal :=
  .next (modifyMem (invertBitOf (bitNumber s rn)) (eaInd s rd) s)

/-- BNOT #xx:3,@aa:8: rule R804. -/
def execBnotImmAbs8 (imm : BitVec 3) (abs : BitVec 8) (s : State) : Host.Outcome State Fault Refusal :=
  .next (modifyMem (invertBitOf imm) (eaAbs8 abs) s)

/-- BNOT Rn,@aa:8: rule R804. -/
def execBnotRegAbs8 (rn : Sel) (abs : BitVec 8) (s : State) : Host.Outcome State Fault Refusal :=
  .next (modifyMem (invertBitOf (bitNumber s rn)) (eaAbs8 abs) s)

/-- BCLR #xx:3,Rd: rule R803. -/
def execBclrImmReg (imm : BitVec 3) (rd : Sel) (s : State) : Host.Outcome State Fault Refusal :=
  .next (modifyReg (clearBitOf imm) rd s)

/-- BCLR Rn,Rd: rule R803. -/
def execBclrRegReg (rn : Sel) (rd : Sel) (s : State) : Host.Outcome State Fault Refusal :=
  .next (modifyReg (clearBitOf (bitNumber s rn)) rd s)

/-- BCLR #xx:3,@ERd: rule R803. -/
def execBclrImmInd (imm : BitVec 3) (rd : ErSel) (s : State) : Host.Outcome State Fault Refusal :=
  .next (modifyMem (clearBitOf imm) (eaInd s rd) s)

/-- BCLR Rn,@ERd: rule R803. -/
def execBclrRegInd (rn : Sel) (rd : ErSel) (s : State) : Host.Outcome State Fault Refusal :=
  .next (modifyMem (clearBitOf (bitNumber s rn)) (eaInd s rd) s)

/-- BCLR #xx:3,@aa:8: rule R803. -/
def execBclrImmAbs8 (imm : BitVec 3) (abs : BitVec 8) (s : State) : Host.Outcome State Fault Refusal :=
  .next (modifyMem (clearBitOf imm) (eaAbs8 abs) s)

/-- BCLR Rn,@aa:8: rule R803. -/
def execBclrRegAbs8 (rn : Sel) (abs : BitVec 8) (s : State) : Host.Outcome State Fault Refusal :=
  .next (modifyMem (clearBitOf (bitNumber s rn)) (eaAbs8 abs) s)

/-- BTST #xx:3,Rd: rule R805. -/
def execBtstImmReg (imm : BitVec 3) (rd : Sel) (s : State) : Host.Outcome State Fault Refusal :=
  .next (testRegBit imm rd s)

/-- BTST Rn,Rd: rule R805. -/
def execBtstRegReg (rn : Sel) (rd : Sel) (s : State) : Host.Outcome State Fault Refusal :=
  .next (testRegBit (bitNumber s rn) rd s)

/-- BTST #xx:3,@ERd: rule R805. -/
def execBtstImmInd (imm : BitVec 3) (rd : ErSel) (s : State) : Host.Outcome State Fault Refusal :=
  .next (testMemBit imm (eaInd s rd) s)

/-- BTST Rn,@ERd: rule R805. -/
def execBtstRegInd (rn : Sel) (rd : ErSel) (s : State) : Host.Outcome State Fault Refusal :=
  .next (testMemBit (bitNumber s rn) (eaInd s rd) s)

/-- BTST #xx:3,@aa:8: rule R805. -/
def execBtstImmAbs8 (imm : BitVec 3) (abs : BitVec 8) (s : State) : Host.Outcome State Fault Refusal :=
  .next (testMemBit imm (eaAbs8 abs) s)

/-- BTST Rn,@aa:8: rule R805. -/
def execBtstRegAbs8 (rn : Sel) (abs : BitVec 8) (s : State) : Host.Outcome State Fault Refusal :=
  .next (testMemBit (bitNumber s rn) (eaAbs8 abs) s)

/-- BLD #xx:3,Rd: rule R806. -/
def execBldReg (imm : BitVec 3) (rd : Sel) (s : State) : Host.Outcome State Fault Refusal :=
  .next (carryFromReg (fun _ b => b) imm rd s)

/-- BLD #xx:3,@ERd: rule R806. -/
def execBldInd (imm : BitVec 3) (rd : ErSel) (s : State) : Host.Outcome State Fault Refusal :=
  .next (carryFromMem (fun _ b => b) imm (eaInd s rd) s)

/-- BLD #xx:3,@aa:8: rule R806. -/
def execBldAbs8 (imm : BitVec 3) (abs : BitVec 8) (s : State) : Host.Outcome State Fault Refusal :=
  .next (carryFromMem (fun _ b => b) imm (eaAbs8 abs) s)

/-- BILD #xx:3,Rd: rule R807. -/
def execBildReg (imm : BitVec 3) (rd : Sel) (s : State) : Host.Outcome State Fault Refusal :=
  .next (carryFromReg (fun _ b => !b) imm rd s)

/-- BILD #xx:3,@ERd: rule R807. -/
def execBildInd (imm : BitVec 3) (rd : ErSel) (s : State) : Host.Outcome State Fault Refusal :=
  .next (carryFromMem (fun _ b => !b) imm (eaInd s rd) s)

/-- BILD #xx:3,@aa:8: rule R807. -/
def execBildAbs8 (imm : BitVec 3) (abs : BitVec 8) (s : State) : Host.Outcome State Fault Refusal :=
  .next (carryFromMem (fun _ b => !b) imm (eaAbs8 abs) s)

/-- BST #xx:3,Rd: rule R808. -/
def execBstReg (imm : BitVec 3) (rd : Sel) (s : State) : Host.Outcome State Fault Refusal :=
  .next (modifyReg (storeBitOf imm s.ccr.c) rd s)

/-- BST #xx:3,@ERd: rule R808. -/
def execBstInd (imm : BitVec 3) (rd : ErSel) (s : State) : Host.Outcome State Fault Refusal :=
  .next (modifyMem (storeBitOf imm s.ccr.c) (eaInd s rd) s)

/-- BST #xx:3,@aa:8: rule R808. -/
def execBstAbs8 (imm : BitVec 3) (abs : BitVec 8) (s : State) : Host.Outcome State Fault Refusal :=
  .next (modifyMem (storeBitOf imm s.ccr.c) (eaAbs8 abs) s)

/-- BIST #xx:3,Rd: rule R809. -/
def execBistReg (imm : BitVec 3) (rd : Sel) (s : State) : Host.Outcome State Fault Refusal :=
  .next (modifyReg (storeBitOf imm (!s.ccr.c)) rd s)

/-- BIST #xx:3,@ERd: rule R809. -/
def execBistInd (imm : BitVec 3) (rd : ErSel) (s : State) : Host.Outcome State Fault Refusal :=
  .next (modifyMem (storeBitOf imm (!s.ccr.c)) (eaInd s rd) s)

/-- BIST #xx:3,@aa:8: rule R809. -/
def execBistAbs8 (imm : BitVec 3) (abs : BitVec 8) (s : State) : Host.Outcome State Fault Refusal :=
  .next (modifyMem (storeBitOf imm (!s.ccr.c)) (eaAbs8 abs) s)

/-- BAND #xx:3,Rd: rule R810. -/
def execBandReg (imm : BitVec 3) (rd : Sel) (s : State) : Host.Outcome State Fault Refusal :=
  .next (carryFromReg (fun c b => c && b) imm rd s)

/-- BAND #xx:3,@ERd: rule R810. -/
def execBandInd (imm : BitVec 3) (rd : ErSel) (s : State) : Host.Outcome State Fault Refusal :=
  .next (carryFromMem (fun c b => c && b) imm (eaInd s rd) s)

/-- BAND #xx:3,@aa:8: rule R810. -/
def execBandAbs8 (imm : BitVec 3) (abs : BitVec 8) (s : State) : Host.Outcome State Fault Refusal :=
  .next (carryFromMem (fun c b => c && b) imm (eaAbs8 abs) s)

/-- BIAND #xx:3,Rd: rule R811. -/
def execBiandReg (imm : BitVec 3) (rd : Sel) (s : State) : Host.Outcome State Fault Refusal :=
  .next (carryFromReg (fun c b => c && !b) imm rd s)

/-- BIAND #xx:3,@ERd: rule R811. -/
def execBiandInd (imm : BitVec 3) (rd : ErSel) (s : State) : Host.Outcome State Fault Refusal :=
  .next (carryFromMem (fun c b => c && !b) imm (eaInd s rd) s)

/-- BIAND #xx:3,@aa:8: rule R811. -/
def execBiandAbs8 (imm : BitVec 3) (abs : BitVec 8) (s : State) : Host.Outcome State Fault Refusal :=
  .next (carryFromMem (fun c b => c && !b) imm (eaAbs8 abs) s)

/-- BOR #xx:3,Rd: rule R812. -/
def execBorReg (imm : BitVec 3) (rd : Sel) (s : State) : Host.Outcome State Fault Refusal :=
  .next (carryFromReg (fun c b => c || b) imm rd s)

/-- BOR #xx:3,@ERd: rule R812. -/
def execBorInd (imm : BitVec 3) (rd : ErSel) (s : State) : Host.Outcome State Fault Refusal :=
  .next (carryFromMem (fun c b => c || b) imm (eaInd s rd) s)

/-- BOR #xx:3,@aa:8: rule R812. -/
def execBorAbs8 (imm : BitVec 3) (abs : BitVec 8) (s : State) : Host.Outcome State Fault Refusal :=
  .next (carryFromMem (fun c b => c || b) imm (eaAbs8 abs) s)

/-- BIOR #xx:3,Rd: rule R813. -/
def execBiorReg (imm : BitVec 3) (rd : Sel) (s : State) : Host.Outcome State Fault Refusal :=
  .next (carryFromReg (fun c b => c || !b) imm rd s)

/-- BIOR #xx:3,@ERd: rule R813. -/
def execBiorInd (imm : BitVec 3) (rd : ErSel) (s : State) : Host.Outcome State Fault Refusal :=
  .next (carryFromMem (fun c b => c || !b) imm (eaInd s rd) s)

/-- BIOR #xx:3,@aa:8: rule R813. -/
def execBiorAbs8 (imm : BitVec 3) (abs : BitVec 8) (s : State) : Host.Outcome State Fault Refusal :=
  .next (carryFromMem (fun c b => c || !b) imm (eaAbs8 abs) s)

/-- BXOR #xx:3,Rd: rule R814. -/
def execBxorReg (imm : BitVec 3) (rd : Sel) (s : State) : Host.Outcome State Fault Refusal :=
  .next (carryFromReg (fun c b => c ^^ b) imm rd s)

/-- BXOR #xx:3,@ERd: rule R814. -/
def execBxorInd (imm : BitVec 3) (rd : ErSel) (s : State) : Host.Outcome State Fault Refusal :=
  .next (carryFromMem (fun c b => c ^^ b) imm (eaInd s rd) s)

/-- BXOR #xx:3,@aa:8: rule R814. -/
def execBxorAbs8 (imm : BitVec 3) (abs : BitVec 8) (s : State) : Host.Outcome State Fault Refusal :=
  .next (carryFromMem (fun c b => c ^^ b) imm (eaAbs8 abs) s)

/-- BIXOR #xx:3,Rd: rule R815. -/
def execBixorReg (imm : BitVec 3) (rd : Sel) (s : State) : Host.Outcome State Fault Refusal :=
  .next (carryFromReg (fun c b => c ^^ !b) imm rd s)

/-- BIXOR #xx:3,@ERd: rule R815. -/
def execBixorInd (imm : BitVec 3) (rd : ErSel) (s : State) : Host.Outcome State Fault Refusal :=
  .next (carryFromMem (fun c b => c ^^ !b) imm (eaInd s rd) s)

/-- BIXOR #xx:3,@aa:8: rule R815. -/
def execBixorAbs8 (imm : BitVec 3) (abs : BitVec 8) (s : State) : Host.Outcome State Fault Refusal :=
  .next (carryFromMem (fun c b => c ^^ !b) imm (eaAbs8 abs) s)

end Sys2Proof.Machine
end

