-- ==== Sys2Proof/Machine/Branch.lean ====
section
/-! DEFINITION. The branches, jumps, calls and returns (`45_branch.md`). Each sets pc itself. -/

namespace Sys2Proof.Machine

/-- A branch on a condition (rules R900-R917). -/
def branchIf (taken : Bool) (disp : BranchDisp) (s : State) : State :=
  s.setPc (if taken then branchTarget s.pc disp else branchNext s.pc disp)

/-- A call: the return address is pushed, then pc takes the target, which was found before the push (rules R919,
R920). -/
def callTo (ret target : Addr) (s : State) : State := (s.push16 ret).setPc target

/-! ### The instructions -/

/-- BRA d:8 or d:16: rule R902. -/
def execBra (disp : BranchDisp) (s : State) : Host.Outcome State Fault Refusal := .next (branchIf true disp s)

/-- BRN d:8 or d:16: rule R903. -/
def execBrn (disp : BranchDisp) (s : State) : Host.Outcome State Fault Refusal := .next (branchIf false disp s)

/-- BHI d:8 or d:16: rule R904. -/
def execBhi (disp : BranchDisp) (s : State) : Host.Outcome State Fault Refusal :=
  .next (branchIf (!(s.ccr.c || s.ccr.z)) disp s)

/-- BLS d:8 or d:16: rule R905. -/
def execBls (disp : BranchDisp) (s : State) : Host.Outcome State Fault Refusal :=
  .next (branchIf (s.ccr.c || s.ccr.z) disp s)

/-- BCC d:8 or d:16: rule R906. -/
def execBcc (disp : BranchDisp) (s : State) : Host.Outcome State Fault Refusal := .next (branchIf (!s.ccr.c) disp s)

/-- BCS d:8 or d:16: rule R907. -/
def execBcs (disp : BranchDisp) (s : State) : Host.Outcome State Fault Refusal := .next (branchIf s.ccr.c disp s)

/-- BNE d:8 or d:16: rule R908. -/
def execBne (disp : BranchDisp) (s : State) : Host.Outcome State Fault Refusal := .next (branchIf (!s.ccr.z) disp s)

/-- BEQ d:8 or d:16: rule R909. -/
def execBeq (disp : BranchDisp) (s : State) : Host.Outcome State Fault Refusal := .next (branchIf s.ccr.z disp s)

/-- BVC d:8 or d:16: rule R910. -/
def execBvc (disp : BranchDisp) (s : State) : Host.Outcome State Fault Refusal := .next (branchIf (!s.ccr.v) disp s)

/-- BVS d:8 or d:16: rule R911. -/
def execBvs (disp : BranchDisp) (s : State) : Host.Outcome State Fault Refusal := .next (branchIf s.ccr.v disp s)

/-- BPL d:8 or d:16: rule R912. -/
def execBpl (disp : BranchDisp) (s : State) : Host.Outcome State Fault Refusal := .next (branchIf (!s.ccr.n) disp s)

/-- BMI d:8 or d:16: rule R913. -/
def execBmi (disp : BranchDisp) (s : State) : Host.Outcome State Fault Refusal := .next (branchIf s.ccr.n disp s)

/-- BGE d:8 or d:16: rule R914. -/
def execBge (disp : BranchDisp) (s : State) : Host.Outcome State Fault Refusal :=
  .next (branchIf (!(s.ccr.n ^^ s.ccr.v)) disp s)

/-- BLT d:8 or d:16: rule R915. -/
def execBlt (disp : BranchDisp) (s : State) : Host.Outcome State Fault Refusal :=
  .next (branchIf (s.ccr.n ^^ s.ccr.v) disp s)

/-- BGT d:8 or d:16: rule R916. -/
def execBgt (disp : BranchDisp) (s : State) : Host.Outcome State Fault Refusal :=
  .next (branchIf (!(s.ccr.z || (s.ccr.n ^^ s.ccr.v))) disp s)

/-- BLE d:8 or d:16: rule R917. -/
def execBle (disp : BranchDisp) (s : State) : Host.Outcome State Fault Refusal :=
  .next (branchIf (s.ccr.z || (s.ccr.n ^^ s.ccr.v)) disp s)

/-- JMP @ERn: rule R918. -/
def execJmpInd (rn : ErSel) (s : State) : Host.Outcome State Fault Refusal := .next (s.setPc (eaInd s rn))

/-- JMP @aa:24: rule R918. -/
def execJmpAbs24 (abs : BitVec 24) (s : State) : Host.Outcome State Fault Refusal := .next (s.setPc (eaAbs24 abs))

/-- JMP @@aa:8: rule R918. -/
def execJmpMemInd (abs : BitVec 8) (s : State) : Host.Outcome State Fault Refusal :=
  let t := s.load16 (eaMemInd abs)
  .next (t.2.setPc t.1)

/-- BSR d:8 or d:16: rule R919. -/
def execBsr (disp : BranchDisp) (s : State) : Host.Outcome State Fault Refusal :=
  .next (callTo (branchNext s.pc disp) (branchTarget s.pc disp) s)

/-- JSR @ERn: rule R920. -/
def execJsrInd (rn : ErSel) (s : State) : Host.Outcome State Fault Refusal := .next (callTo (s.pc + 2) (eaInd s rn) s)

/-- JSR @aa:24: rule R920. -/
def execJsrAbs24 (abs : BitVec 24) (s : State) : Host.Outcome State Fault Refusal :=
  .next (callTo (s.pc + 4) (eaAbs24 abs) s)

/-- JSR @@aa:8: rule R920. -/
def execJsrMemInd (abs : BitVec 8) (s : State) : Host.Outcome State Fault Refusal :=
  let t := s.load16 (eaMemInd abs)
  .next (callTo (s.pc + 2) t.1 t.2)

/-- RTS: rule R921. -/
def execRts (s : State) : Host.Outcome State Fault Refusal :=
  let r := s.pop16
  .next (r.2.setPc r.1)

end Sys2Proof.Machine
end

