-- ==== Sys2Proof/WellFormed.lean ====
section
/-! DEFINITION. Which instruction terms stand for an encoding. Immediates, displacements, absolute addresses and 4-bit
selectors hold every value an encoding can give them; the one thing a term can get wrong is the nibble of a 32-bit
register, whose bit 3 is a fixed 0 in every row (`10_state.md` rule R104, `30_encoding.md` rule R306). -/

namespace Sys2Proof

/-- The nibble of a 32-bit register has its bit 3 at 0 (`30_encoding.md` rule R306). -/
def erOk (r : ErSel) : Bool := decide (r.toNat < 8)

/-- Every 32-bit register nibble of the instruction is one that an encoding can hold. -/
def Instr.wellFormed : Instr → Bool
  | .movBReg _ _ => true
  | .movWReg _ _ => true
  | .movLReg rs rd => erOk rs && erOk rd
  | .movBImm _ _ => true
  | .movWImm _ _ => true
  | .movLImm _ rd => erOk rd
  | .movBInd rs _ => erOk rs
  | .movWInd rs _ => erOk rs
  | .movLInd rs rd => erOk rs && erOk rd
  | .movBToInd _ rd => erOk rd
  | .movWToInd _ rd => erOk rd
  | .movLToInd rs rd => erOk rs && erOk rd
  | .movBDisp16 _ rs _ => erOk rs
  | .movWDisp16 _ rs _ => erOk rs
  | .movLDisp16 _ rs rd => erOk rs && erOk rd
  | .movBToDisp16 _ _ rd => erOk rd
  | .movWToDisp16 _ _ rd => erOk rd
  | .movLToDisp16 rs _ rd => erOk rs && erOk rd
  | .movBDisp24 _ rs _ => erOk rs
  | .movWDisp24 _ rs _ => erOk rs
  | .movLDisp24 _ rs rd => erOk rs && erOk rd
  | .movBToDisp24 _ _ rd => erOk rd
  | .movWToDisp24 _ _ rd => erOk rd
  | .movLToDisp24 rs _ rd => erOk rs && erOk rd
  | .movBPostInc rs _ => erOk rs
  | .movWPostInc rs _ => erOk rs
  | .movLPostInc rs rd => erOk rs && erOk rd
  | .movBToPreDec _ rd => erOk rd
  | .movWToPreDec _ rd => erOk rd
  | .movLToPreDec rs rd => erOk rs && erOk rd
  | .movBAbs8 _ _ => true
  | .movBAbs16 _ _ => true
  | .movBAbs24 _ _ => true
  | .movWAbs16 _ _ => true
  | .movWAbs24 _ _ => true
  | .movLAbs16 _ rd => erOk rd
  | .movLAbs24 _ rd => erOk rd
  | .movBToAbs8 _ _ => true
  | .movBToAbs16 _ _ => true
  | .movBToAbs24 _ _ => true
  | .movWToAbs16 _ _ => true
  | .movWToAbs24 _ _ => true
  | .movLToAbs16 rs _ => erOk rs
  | .movLToAbs24 rs _ => erOk rs
  | .eepmovB => true
  | .eepmovW => true
  | .movfpe _ _ => true
  | .movtpe _ _ => true
  | .addBImm _ _ => true
  | .addBReg _ _ => true
  | .addWImm _ _ => true
  | .addWReg _ _ => true
  | .addLImm _ rd => erOk rd
  | .addLReg rs rd => erOk rs && erOk rd
  | .addxImm _ _ => true
  | .addxReg _ _ => true
  | .adds1 rd => erOk rd
  | .adds2 rd => erOk rd
  | .adds4 rd => erOk rd
  | .incB _ => true
  | .incW1 _ => true
  | .incW2 _ => true
  | .incL1 rd => erOk rd
  | .incL2 rd => erOk rd
  | .daa _ => true
  | .subBReg _ _ => true
  | .subWImm _ _ => true
  | .subWReg _ _ => true
  | .subLImm _ rd => erOk rd
  | .subLReg rs rd => erOk rs && erOk rd
  | .subxImm _ _ => true
  | .subxReg _ _ => true
  | .subs1 rd => erOk rd
  | .subs2 rd => erOk rd
  | .subs4 rd => erOk rd
  | .decB _ => true
  | .decW1 _ => true
  | .decW2 _ => true
  | .decL1 rd => erOk rd
  | .decL2 rd => erOk rd
  | .das _ => true
  | .negB _ => true
  | .negW _ => true
  | .negL rd => erOk rd
  | .cmpBImm _ _ => true
  | .cmpBReg _ _ => true
  | .cmpWImm _ _ => true
  | .cmpWReg _ _ => true
  | .cmpLImm _ rd => erOk rd
  | .cmpLReg rs rd => erOk rs && erOk rd
  | .mulxuB _ _ => true
  | .mulxuW _ rd => erOk rd
  | .mulxsB _ _ => true
  | .mulxsW _ rd => erOk rd
  | .divxuB _ _ => true
  | .divxuW _ rd => erOk rd
  | .divxsB _ _ => true
  | .divxsW _ rd => erOk rd
  | .extuW _ => true
  | .extuL rd => erOk rd
  | .extsW _ => true
  | .extsL rd => erOk rd
  | .andBImm _ _ => true
  | .andBReg _ _ => true
  | .andWImm _ _ => true
  | .andWReg _ _ => true
  | .andLImm _ rd => erOk rd
  | .andLReg rs rd => erOk rs && erOk rd
  | .orBImm _ _ => true
  | .orBReg _ _ => true
  | .orWImm _ _ => true
  | .orWReg _ _ => true
  | .orLImm _ rd => erOk rd
  | .orLReg rs rd => erOk rs && erOk rd
  | .xorBImm _ _ => true
  | .xorBReg _ _ => true
  | .xorWImm _ _ => true
  | .xorWReg _ _ => true
  | .xorLImm _ rd => erOk rd
  | .xorLReg rs rd => erOk rs && erOk rd
  | .notB _ => true
  | .notW _ => true
  | .notL rd => erOk rd
  | .shalB _ => true
  | .shalW _ => true
  | .shalL rd => erOk rd
  | .sharB _ => true
  | .sharW _ => true
  | .sharL rd => erOk rd
  | .shllB _ => true
  | .shllW _ => true
  | .shllL rd => erOk rd
  | .shlrB _ => true
  | .shlrW _ => true
  | .shlrL rd => erOk rd
  | .rotlB _ => true
  | .rotlW _ => true
  | .rotlL rd => erOk rd
  | .rotrB _ => true
  | .rotrW _ => true
  | .rotrL rd => erOk rd
  | .rotxlB _ => true
  | .rotxlW _ => true
  | .rotxlL rd => erOk rd
  | .rotxrB _ => true
  | .rotxrW _ => true
  | .rotxrL rd => erOk rd
  | .bsetImmReg _ _ => true
  | .bsetRegReg _ _ => true
  | .bsetImmInd _ rd => erOk rd
  | .bsetRegInd _ rd => erOk rd
  | .bsetImmAbs8 _ _ => true
  | .bsetRegAbs8 _ _ => true
  | .bnotImmReg _ _ => true
  | .bnotRegReg _ _ => true
  | .bnotImmInd _ rd => erOk rd
  | .bnotRegInd _ rd => erOk rd
  | .bnotImmAbs8 _ _ => true
  | .bnotRegAbs8 _ _ => true
  | .bclrImmReg _ _ => true
  | .bclrRegReg _ _ => true
  | .bclrImmInd _ rd => erOk rd
  | .bclrRegInd _ rd => erOk rd
  | .bclrImmAbs8 _ _ => true
  | .bclrRegAbs8 _ _ => true
  | .btstImmReg _ _ => true
  | .btstRegReg _ _ => true
  | .btstImmInd _ rd => erOk rd
  | .btstRegInd _ rd => erOk rd
  | .btstImmAbs8 _ _ => true
  | .btstRegAbs8 _ _ => true
  | .bldReg _ _ => true
  | .bldInd _ rd => erOk rd
  | .bldAbs8 _ _ => true
  | .bildReg _ _ => true
  | .bildInd _ rd => erOk rd
  | .bildAbs8 _ _ => true
  | .bstReg _ _ => true
  | .bstInd _ rd => erOk rd
  | .bstAbs8 _ _ => true
  | .bistReg _ _ => true
  | .bistInd _ rd => erOk rd
  | .bistAbs8 _ _ => true
  | .bandReg _ _ => true
  | .bandInd _ rd => erOk rd
  | .bandAbs8 _ _ => true
  | .biandReg _ _ => true
  | .biandInd _ rd => erOk rd
  | .biandAbs8 _ _ => true
  | .borReg _ _ => true
  | .borInd _ rd => erOk rd
  | .borAbs8 _ _ => true
  | .biorReg _ _ => true
  | .biorInd _ rd => erOk rd
  | .biorAbs8 _ _ => true
  | .bxorReg _ _ => true
  | .bxorInd _ rd => erOk rd
  | .bxorAbs8 _ _ => true
  | .bixorReg _ _ => true
  | .bixorInd _ rd => erOk rd
  | .bixorAbs8 _ _ => true
  | .bra _ => true
  | .brn _ => true
  | .bhi _ => true
  | .bls _ => true
  | .bcc _ => true
  | .bcs _ => true
  | .bne _ => true
  | .beq _ => true
  | .bvc _ => true
  | .bvs _ => true
  | .bpl _ => true
  | .bmi _ => true
  | .bge _ => true
  | .blt _ => true
  | .bgt _ => true
  | .ble _ => true
  | .jmpInd rn => erOk rn
  | .jmpAbs24 _ => true
  | .jmpMemInd _ => true
  | .bsr _ => true
  | .jsrInd rn => erOk rn
  | .jsrAbs24 _ => true
  | .jsrMemInd _ => true
  | .rts => true
  | .ldcBImm _ => true
  | .ldcBReg _ => true
  | .ldcWInd rs => erOk rs
  | .ldcWDisp16 _ rs => erOk rs
  | .ldcWDisp24 _ rs => erOk rs
  | .ldcWPostInc rs => erOk rs
  | .ldcWAbs16 _ => true
  | .ldcWAbs24 _ => true
  | .stcBReg _ => true
  | .stcWToInd rd => erOk rd
  | .stcWToDisp16 _ rd => erOk rd
  | .stcWToDisp24 _ rd => erOk rd
  | .stcWToPreDec rd => erOk rd
  | .stcWToAbs16 _ => true
  | .stcWToAbs24 _ => true
  | .andc _ => true
  | .orc _ => true
  | .xorc _ => true
  | .trapa _ => true
  | .nop => true
  | .sleep => true
  | .rte => true

/-- The row is admitted: `92_eei_decisions.md` D2 admits every row but TRAPA, MOVFPE and MOVTPE
(`30_encoding.md` rule R331). -/
def Instr.admitted : Instr → Bool
  | .movBReg _ _ => true
  | .movWReg _ _ => true
  | .movLReg _ _ => true
  | .movBImm _ _ => true
  | .movWImm _ _ => true
  | .movLImm _ _ => true
  | .movBInd _ _ => true
  | .movWInd _ _ => true
  | .movLInd _ _ => true
  | .movBToInd _ _ => true
  | .movWToInd _ _ => true
  | .movLToInd _ _ => true
  | .movBDisp16 _ _ _ => true
  | .movWDisp16 _ _ _ => true
  | .movLDisp16 _ _ _ => true
  | .movBToDisp16 _ _ _ => true
  | .movWToDisp16 _ _ _ => true
  | .movLToDisp16 _ _ _ => true
  | .movBDisp24 _ _ _ => true
  | .movWDisp24 _ _ _ => true
  | .movLDisp24 _ _ _ => true
  | .movBToDisp24 _ _ _ => true
  | .movWToDisp24 _ _ _ => true
  | .movLToDisp24 _ _ _ => true
  | .movBPostInc _ _ => true
  | .movWPostInc _ _ => true
  | .movLPostInc _ _ => true
  | .movBToPreDec _ _ => true
  | .movWToPreDec _ _ => true
  | .movLToPreDec _ _ => true
  | .movBAbs8 _ _ => true
  | .movBAbs16 _ _ => true
  | .movBAbs24 _ _ => true
  | .movWAbs16 _ _ => true
  | .movWAbs24 _ _ => true
  | .movLAbs16 _ _ => true
  | .movLAbs24 _ _ => true
  | .movBToAbs8 _ _ => true
  | .movBToAbs16 _ _ => true
  | .movBToAbs24 _ _ => true
  | .movWToAbs16 _ _ => true
  | .movWToAbs24 _ _ => true
  | .movLToAbs16 _ _ => true
  | .movLToAbs24 _ _ => true
  | .eepmovB => true
  | .eepmovW => true
  | .movfpe _ _ => false
  | .movtpe _ _ => false
  | .addBImm _ _ => true
  | .addBReg _ _ => true
  | .addWImm _ _ => true
  | .addWReg _ _ => true
  | .addLImm _ _ => true
  | .addLReg _ _ => true
  | .addxImm _ _ => true
  | .addxReg _ _ => true
  | .adds1 _ => true
  | .adds2 _ => true
  | .adds4 _ => true
  | .incB _ => true
  | .incW1 _ => true
  | .incW2 _ => true
  | .incL1 _ => true
  | .incL2 _ => true
  | .daa _ => true
  | .subBReg _ _ => true
  | .subWImm _ _ => true
  | .subWReg _ _ => true
  | .subLImm _ _ => true
  | .subLReg _ _ => true
  | .subxImm _ _ => true
  | .subxReg _ _ => true
  | .subs1 _ => true
  | .subs2 _ => true
  | .subs4 _ => true
  | .decB _ => true
  | .decW1 _ => true
  | .decW2 _ => true
  | .decL1 _ => true
  | .decL2 _ => true
  | .das _ => true
  | .negB _ => true
  | .negW _ => true
  | .negL _ => true
  | .cmpBImm _ _ => true
  | .cmpBReg _ _ => true
  | .cmpWImm _ _ => true
  | .cmpWReg _ _ => true
  | .cmpLImm _ _ => true
  | .cmpLReg _ _ => true
  | .mulxuB _ _ => true
  | .mulxuW _ _ => true
  | .mulxsB _ _ => true
  | .mulxsW _ _ => true
  | .divxuB _ _ => true
  | .divxuW _ _ => true
  | .divxsB _ _ => true
  | .divxsW _ _ => true
  | .extuW _ => true
  | .extuL _ => true
  | .extsW _ => true
  | .extsL _ => true
  | .andBImm _ _ => true
  | .andBReg _ _ => true
  | .andWImm _ _ => true
  | .andWReg _ _ => true
  | .andLImm _ _ => true
  | .andLReg _ _ => true
  | .orBImm _ _ => true
  | .orBReg _ _ => true
  | .orWImm _ _ => true
  | .orWReg _ _ => true
  | .orLImm _ _ => true
  | .orLReg _ _ => true
  | .xorBImm _ _ => true
  | .xorBReg _ _ => true
  | .xorWImm _ _ => true
  | .xorWReg _ _ => true
  | .xorLImm _ _ => true
  | .xorLReg _ _ => true
  | .notB _ => true
  | .notW _ => true
  | .notL _ => true
  | .shalB _ => true
  | .shalW _ => true
  | .shalL _ => true
  | .sharB _ => true
  | .sharW _ => true
  | .sharL _ => true
  | .shllB _ => true
  | .shllW _ => true
  | .shllL _ => true
  | .shlrB _ => true
  | .shlrW _ => true
  | .shlrL _ => true
  | .rotlB _ => true
  | .rotlW _ => true
  | .rotlL _ => true
  | .rotrB _ => true
  | .rotrW _ => true
  | .rotrL _ => true
  | .rotxlB _ => true
  | .rotxlW _ => true
  | .rotxlL _ => true
  | .rotxrB _ => true
  | .rotxrW _ => true
  | .rotxrL _ => true
  | .bsetImmReg _ _ => true
  | .bsetRegReg _ _ => true
  | .bsetImmInd _ _ => true
  | .bsetRegInd _ _ => true
  | .bsetImmAbs8 _ _ => true
  | .bsetRegAbs8 _ _ => true
  | .bnotImmReg _ _ => true
  | .bnotRegReg _ _ => true
  | .bnotImmInd _ _ => true
  | .bnotRegInd _ _ => true
  | .bnotImmAbs8 _ _ => true
  | .bnotRegAbs8 _ _ => true
  | .bclrImmReg _ _ => true
  | .bclrRegReg _ _ => true
  | .bclrImmInd _ _ => true
  | .bclrRegInd _ _ => true
  | .bclrImmAbs8 _ _ => true
  | .bclrRegAbs8 _ _ => true
  | .btstImmReg _ _ => true
  | .btstRegReg _ _ => true
  | .btstImmInd _ _ => true
  | .btstRegInd _ _ => true
  | .btstImmAbs8 _ _ => true
  | .btstRegAbs8 _ _ => true
  | .bldReg _ _ => true
  | .bldInd _ _ => true
  | .bldAbs8 _ _ => true
  | .bildReg _ _ => true
  | .bildInd _ _ => true
  | .bildAbs8 _ _ => true
  | .bstReg _ _ => true
  | .bstInd _ _ => true
  | .bstAbs8 _ _ => true
  | .bistReg _ _ => true
  | .bistInd _ _ => true
  | .bistAbs8 _ _ => true
  | .bandReg _ _ => true
  | .bandInd _ _ => true
  | .bandAbs8 _ _ => true
  | .biandReg _ _ => true
  | .biandInd _ _ => true
  | .biandAbs8 _ _ => true
  | .borReg _ _ => true
  | .borInd _ _ => true
  | .borAbs8 _ _ => true
  | .biorReg _ _ => true
  | .biorInd _ _ => true
  | .biorAbs8 _ _ => true
  | .bxorReg _ _ => true
  | .bxorInd _ _ => true
  | .bxorAbs8 _ _ => true
  | .bixorReg _ _ => true
  | .bixorInd _ _ => true
  | .bixorAbs8 _ _ => true
  | .bra _ => true
  | .brn _ => true
  | .bhi _ => true
  | .bls _ => true
  | .bcc _ => true
  | .bcs _ => true
  | .bne _ => true
  | .beq _ => true
  | .bvc _ => true
  | .bvs _ => true
  | .bpl _ => true
  | .bmi _ => true
  | .bge _ => true
  | .blt _ => true
  | .bgt _ => true
  | .ble _ => true
  | .jmpInd _ => true
  | .jmpAbs24 _ => true
  | .jmpMemInd _ => true
  | .bsr _ => true
  | .jsrInd _ => true
  | .jsrAbs24 _ => true
  | .jsrMemInd _ => true
  | .rts => true
  | .ldcBImm _ => true
  | .ldcBReg _ => true
  | .ldcWInd _ => true
  | .ldcWDisp16 _ _ => true
  | .ldcWDisp24 _ _ => true
  | .ldcWPostInc _ => true
  | .ldcWAbs16 _ => true
  | .ldcWAbs24 _ => true
  | .stcBReg _ => true
  | .stcWToInd _ => true
  | .stcWToDisp16 _ _ => true
  | .stcWToDisp24 _ _ => true
  | .stcWToPreDec _ => true
  | .stcWToAbs16 _ => true
  | .stcWToAbs24 _ => true
  | .andc _ => true
  | .orc _ => true
  | .xorc _ => true
  | .trapa _ => false
  | .nop => true
  | .sleep => true
  | .rte => true

end Sys2Proof
end

