-- ==== Sys2Proof/Decode.lean ====
section
/-! DEFINITION. The decoder and the encoder of `30_encoding.md` rule R350.

`decode` is total on any list of bytes. It follows the dispatch of rules R300-R302: the first byte, then the high nibble
of the second (secondary table), then the third and fourth bytes (tertiary group). Every fixed bit of a row is checked
(rule R310); bytes that match no row are rejected with the dispatch keys (rule R330). -/

namespace Sys2Proof

/-! ### Fields -/

/-- The byte of two nibbles. -/
def nb (h l : BitVec 4) : Byte := h ++ l

/-- The bytes of a 16-, 24- or 32-bit field, most significant first (`20_memory.md` rule R206). -/
def bytes16 (v : BitVec 16) : List Byte := [v.extractLsb' 8 8, v.extractLsb' 0 8]
def bytes24 (v : BitVec 24) : List Byte := [v.extractLsb' 16 8, v.extractLsb' 8 8, v.extractLsb' 0 8]
def bytes32 (v : BitVec 32) : List Byte :=
  [v.extractLsb' 24 8, v.extractLsb' 16 8, v.extractLsb' 8 8, v.extractLsb' 0 8]

/-- A field of two, three or four bytes, most significant first (`30_encoding.md` rule R307). -/
def half (a b : Byte) : BitVec 16 := a ++ b
def tri (a b c : Byte) : BitVec 24 := a ++ b ++ c
def quad (a b c d : Byte) : BitVec 32 := a ++ b ++ c ++ d

/-- The nibble `1sss` of a 32-bit register (`30_encoding.md` rule R306). -/
def er1 (r : ErSel) : BitVec 4 := 8#4 ||| r

/-- The register of a nibble whose top bit is not part of the register: the low three bits. -/
def erLow (n : BitVec 4) : ErSel := 7#4 &&& n

/-- The `#xx:3` field of a nibble (`30_encoding.md` rule R307). -/
def imm3 (n : BitVec 4) : BitVec 3 := n.extractLsb' 0 3

/-- The instruction, if the check holds: a fixed bit of its row (`30_encoding.md` rule R310). -/
def onlyIf (p : Bool) (i : Instr) : Option Instr := if p then some i else none

/-! ### Dispatch keys -/

/-- The primary keys that redirect to the secondary table (`30_encoding.md` rule R301). -/
def hasSecondary (a : Byte) : Bool :=
  [0x01#8, 0x0A#8, 0x0B#8, 0x0F#8, 0x10#8, 0x11#8, 0x12#8, 0x13#8, 0x17#8, 0x1A#8, 0x1B#8, 0x1F#8, 0x58#8, 0x79#8,
    0x7A#8].contains a

/-- The keys that redirect to the tertiary table (`30_encoding.md` rule R301). -/
def hasTertiary (a b : Byte) : Bool :=
  [0x7C#8, 0x7D#8, 0x7E#8, 0x7F#8].contains a || (a == 0x01#8 && [0xC#4, 0xD#4, 0xF#4].contains (hiNib b))

/-- The dispatch keys of an instruction whose first bytes are a, b, c (`30_encoding.md` rule R322). DEDUCED (log 16): the
secondary and tertiary keys are there exactly where rule R301 says that a lookup uses them. -/
def decodeKeys (a b c : Byte) : DecodeKeys where
  k1 := (hiNib a, loNib a)
  k2 := if hasSecondary a then some (a, hiNib b) else none
  k3 := if hasTertiary a b then
          some ((a.setWidth 20 <<< 12) ||| (b.setWidth 20 <<< 4) ||| (hiNib c).setWidth 20, loNib c)
        else none

/-! ### The decoder -/

/-- First byte 01: MOV.L in memory, LDC.W and STC.W, SLEEP, MULXS, DIVXS and the long logic instructions. -/
def decode01 (b c d e f g h i j : Byte) : Option Instr :=
  match b.toNat with
  | 0x00 =>
    match c.toNat with
    | 0x69 => if (hiNib d).msb then onlyIf (erOk (loNib d)) (.movLToInd (loNib d) (erLow (hiNib d)))
              else onlyIf (erOk (loNib d)) (.movLInd (hiNib d) (loNib d))
    | 0x6B =>
      match (hiNib d).toNat with
      | 0x0 => onlyIf (erOk (loNib d)) (.movLAbs16 (half e f) (loNib d))
      | 0x2 => onlyIf (erOk (loNib d) && e == 0#8) (.movLAbs24 (tri f g h) (loNib d))
      | 0x8 => onlyIf (erOk (loNib d)) (.movLToAbs16 (loNib d) (half e f))
      | 0xA => onlyIf (erOk (loNib d) && e == 0#8) (.movLToAbs24 (loNib d) (tri f g h))
      | _ => none
    | 0x6D => if (hiNib d).msb then onlyIf (erOk (loNib d)) (.movLToPreDec (loNib d) (erLow (hiNib d)))
              else onlyIf (erOk (loNib d)) (.movLPostInc (hiNib d) (loNib d))
    | 0x6F => if (hiNib d).msb then onlyIf (erOk (loNib d)) (.movLToDisp16 (loNib d) (half e f) (erLow (hiNib d)))
              else onlyIf (erOk (loNib d)) (.movLDisp16 (half e f) (hiNib d) (loNib d))
    | 0x78 =>
      if erOk (hiNib d) && loNib d == 0#4 && e == 0x6B#8 && erOk (loNib f) && g == 0#8 then
        match (hiNib f).toNat with
        | 0x2 => some (.movLDisp24 (tri h i j) (hiNib d) (loNib f))
        | 0xA => some (.movLToDisp24 (loNib f) (tri h i j) (hiNib d))
        | _ => none
      else none
    | _ => none
  | 0x40 =>
    match c.toNat with
    | 0x69 => if (hiNib d).msb then onlyIf (loNib d == 0#4) (.stcWToInd (erLow (hiNib d)))
              else onlyIf (loNib d == 0#4) (.ldcWInd (hiNib d))
    | 0x6B =>
      match d.toNat with
      | 0x00 => some (.ldcWAbs16 (half e f))
      | 0x20 => onlyIf (e == 0#8) (.ldcWAbs24 (tri f g h))
      | 0x80 => some (.stcWToAbs16 (half e f))
      | 0xA0 => onlyIf (e == 0#8) (.stcWToAbs24 (tri f g h))
      | _ => none
    | 0x6D => if (hiNib d).msb then onlyIf (loNib d == 0#4) (.stcWToPreDec (erLow (hiNib d)))
              else onlyIf (loNib d == 0#4) (.ldcWPostInc (hiNib d))
    | 0x6F => if (hiNib d).msb then onlyIf (loNib d == 0#4) (.stcWToDisp16 (half e f) (erLow (hiNib d)))
              else onlyIf (loNib d == 0#4) (.ldcWDisp16 (half e f) (hiNib d))
    | 0x78 =>
      if erOk (hiNib d) && loNib d == 0#4 && e == 0x6B#8 && g == 0#8 then
        match f.toNat with
        | 0x20 => some (.ldcWDisp24 (tri h i j) (hiNib d))
        | 0xA0 => some (.stcWToDisp24 (tri h i j) (hiNib d))
        | _ => none
      else none
    | _ => none
  | 0x80 => some .sleep
  | 0xC0 =>
    match c.toNat with
    | 0x50 => some (.mulxsB (hiNib d) (loNib d))
    | 0x52 => onlyIf (erOk (loNib d)) (.mulxsW (hiNib d) (loNib d))
    | _ => none
  | 0xD0 =>
    match c.toNat with
    | 0x51 => some (.divxsB (hiNib d) (loNib d))
    | 0x53 => onlyIf (erOk (loNib d)) (.divxsW (hiNib d) (loNib d))
    | _ => none
  | 0xF0 =>
    match c.toNat with
    | 0x64 => onlyIf (erOk (hiNib d) && erOk (loNib d)) (.orLReg (hiNib d) (loNib d))
    | 0x65 => onlyIf (erOk (hiNib d) && erOk (loNib d)) (.xorLReg (hiNib d) (loNib d))
    | 0x66 => onlyIf (erOk (hiNib d) && erOk (loNib d)) (.andLReg (hiNib d) (loNib d))
    | _ => none
  | _ => none

/-- First byte 0x. -/
def decode0 (a b c d e f g h i j : Byte) : Option Instr :=
  match (loNib a).toNat with
  | 0x0 => onlyIf (b == 0#8) .nop
  | 0x1 => decode01 b c d e f g h i j
  | 0x2 => onlyIf (hiNib b == 0#4) (.stcBReg (loNib b))
  | 0x3 => onlyIf (hiNib b == 0#4) (.ldcBReg (loNib b))
  | 0x4 => some (.orc b)
  | 0x5 => some (.xorc b)
  | 0x6 => some (.andc b)
  | 0x7 => some (.ldcBImm b)
  | 0x8 => some (.addBReg (hiNib b) (loNib b))
  | 0x9 => some (.addWReg (hiNib b) (loNib b))
  | 0xA => if (hiNib b).msb then onlyIf (erOk (loNib b)) (.addLReg (erLow (hiNib b)) (loNib b))
           else onlyIf (hiNib b == 0#4) (.incB (loNib b))
  | 0xB =>
    match (hiNib b).toNat with
    | 0x0 => onlyIf (erOk (loNib b)) (.adds1 (loNib b))
    | 0x5 => some (.incW1 (loNib b))
    | 0x7 => onlyIf (erOk (loNib b)) (.incL1 (loNib b))
    | 0x8 => onlyIf (erOk (loNib b)) (.adds2 (loNib b))
    | 0x9 => onlyIf (erOk (loNib b)) (.adds4 (loNib b))
    | 0xD => some (.incW2 (loNib b))
    | 0xF => onlyIf (erOk (loNib b)) (.incL2 (loNib b))
    | _ => none
  | 0xC => some (.movBReg (hiNib b) (loNib b))
  | 0xD => some (.movWReg (hiNib b) (loNib b))
  | 0xE => some (.addxReg (hiNib b) (loNib b))
  | _ => if (hiNib b).msb then onlyIf (erOk (loNib b)) (.movLReg (erLow (hiNib b)) (loNib b))
         else onlyIf (hiNib b == 0#4) (.daa (loNib b))

/-- First byte 1x. -/
def decode1 (a b : Byte) : Option Instr :=
  match (loNib a).toNat with
  | 0x0 =>
    match (hiNib b).toNat with
    | 0x0 => some (.shllB (loNib b))
    | 0x1 => some (.shllW (loNib b))
    | 0x3 => onlyIf (erOk (loNib b)) (.shllL (loNib b))
    | 0x8 => some (.shalB (loNib b))
    | 0x9 => some (.shalW (loNib b))
    | 0xB => onlyIf (erOk (loNib b)) (.shalL (loNib b))
    | _ => none
  | 0x1 =>
    match (hiNib b).toNat with
    | 0x0 => some (.shlrB (loNib b))
    | 0x1 => some (.shlrW (loNib b))
    | 0x3 => onlyIf (erOk (loNib b)) (.shlrL (loNib b))
    | 0x8 => some (.sharB (loNib b))
    | 0x9 => some (.sharW (loNib b))
    | 0xB => onlyIf (erOk (loNib b)) (.sharL (loNib b))
    | _ => none
  | 0x2 =>
    match (hiNib b).toNat with
    | 0x0 => some (.rotxlB (loNib b))
    | 0x1 => some (.rotxlW (loNib b))
    | 0x3 => onlyIf (erOk (loNib b)) (.rotxlL (loNib b))
    | 0x8 => some (.rotlB (loNib b))
    | 0x9 => some (.rotlW (loNib b))
    | 0xB => onlyIf (erOk (loNib b)) (.rotlL (loNib b))
    | _ => none
  | 0x3 =>
    match (hiNib b).toNat with
    | 0x0 => some (.rotxrB (loNib b))
    | 0x1 => some (.rotxrW (loNib b))
    | 0x3 => onlyIf (erOk (loNib b)) (.rotxrL (loNib b))
    | 0x8 => some (.rotrB (loNib b))
    | 0x9 => some (.rotrW (loNib b))
    | 0xB => onlyIf (erOk (loNib b)) (.rotrL (loNib b))
    | _ => none
  | 0x4 => some (.orBReg (hiNib b) (loNib b))
  | 0x5 => some (.xorBReg (hiNib b) (loNib b))
  | 0x6 => some (.andBReg (hiNib b) (loNib b))
  | 0x7 =>
    match (hiNib b).toNat with
    | 0x0 => some (.notB (loNib b))
    | 0x1 => some (.notW (loNib b))
    | 0x3 => onlyIf (erOk (loNib b)) (.notL (loNib b))
    | 0x5 => some (.extuW (loNib b))
    | 0x7 => onlyIf (erOk (loNib b)) (.extuL (loNib b))
    | 0x8 => some (.negB (loNib b))
    | 0x9 => some (.negW (loNib b))
    | 0xB => onlyIf (erOk (loNib b)) (.negL (loNib b))
    | 0xD => some (.extsW (loNib b))
    | 0xF => onlyIf (erOk (loNib b)) (.extsL (loNib b))
    | _ => none
  | 0x8 => some (.subBReg (hiNib b) (loNib b))
  | 0x9 => some (.subWReg (hiNib b) (loNib b))
  | 0xA => if (hiNib b).msb then onlyIf (erOk (loNib b)) (.subLReg (erLow (hiNib b)) (loNib b))
           else onlyIf (hiNib b == 0#4) (.decB (loNib b))
  | 0xB =>
    match (hiNib b).toNat with
    | 0x0 => onlyIf (erOk (loNib b)) (.subs1 (loNib b))
    | 0x5 => some (.decW1 (loNib b))
    | 0x7 => onlyIf (erOk (loNib b)) (.decL1 (loNib b))
    | 0x8 => onlyIf (erOk (loNib b)) (.subs2 (loNib b))
    | 0x9 => onlyIf (erOk (loNib b)) (.subs4 (loNib b))
    | 0xD => some (.decW2 (loNib b))
    | 0xF => onlyIf (erOk (loNib b)) (.decL2 (loNib b))
    | _ => none
  | 0xC => some (.cmpBReg (hiNib b) (loNib b))
  | 0xD => some (.cmpWReg (hiNib b) (loNib b))
  | 0xE => some (.subxReg (hiNib b) (loNib b))
  | _ => if (hiNib b).msb then onlyIf (erOk (loNib b)) (.cmpLReg (erLow (hiNib b)) (loNib b))
         else onlyIf (hiNib b == 0#4) (.das (loNib b))

/-- The conditional branch of a condition field (`45_branch.md` rule R900). -/
def decodeBcc (cccc : BitVec 4) (disp : BranchDisp) : Instr :=
  match cccc.toNat with
  | 0x0 => .bra disp
  | 0x1 => .brn disp
  | 0x2 => .bhi disp
  | 0x3 => .bls disp
  | 0x4 => .bcc disp
  | 0x5 => .bcs disp
  | 0x6 => .bne disp
  | 0x7 => .beq disp
  | 0x8 => .bvc disp
  | 0x9 => .bvs disp
  | 0xA => .bpl disp
  | 0xB => .bmi disp
  | 0xC => .bge disp
  | 0xD => .blt disp
  | 0xE => .bgt disp
  | _ => .ble disp

/-- First byte 5x. TRAPA is recognised by name (`30_encoding.md` rule R331). -/
def decode5 (a b c d : Byte) : Option Instr :=
  match (loNib a).toNat with
  | 0x0 => some (.mulxuB (hiNib b) (loNib b))
  | 0x1 => some (.divxuB (hiNib b) (loNib b))
  | 0x2 => onlyIf (erOk (loNib b)) (.mulxuW (hiNib b) (loNib b))
  | 0x3 => onlyIf (erOk (loNib b)) (.divxuW (hiNib b) (loNib b))
  | 0x4 => onlyIf (b == 0x70#8) .rts
  | 0x5 => some (.bsr (.d8 b))
  | 0x6 => onlyIf (b == 0x70#8) .rte
  | 0x7 => onlyIf ((hiNib b).extractLsb' 2 2 == 0#2 && loNib b == 0#4) (.trapa ((hiNib b).extractLsb' 0 2))
  | 0x8 => onlyIf (loNib b == 0#4) (decodeBcc (hiNib b) (.d16 (half c d)))
  | 0x9 => onlyIf (erOk (hiNib b) && loNib b == 0#4) (.jmpInd (hiNib b))
  | 0xA => some (.jmpAbs24 (tri b c d))
  | 0xB => some (.jmpMemInd b)
  | 0xC => onlyIf (b == 0#8) (.bsr (.d16 (half c d)))
  | 0xD => onlyIf (erOk (hiNib b) && loNib b == 0#4) (.jsrInd (hiNib b))
  | 0xE => some (.jsrAbs24 (tri b c d))
  | _ => some (.jsrMemInd b)

/-- First byte 6x. MOVFPE and MOVTPE are recognised by name (`30_encoding.md` rule R331). -/
def decode6 (a b c d e f : Byte) : Option Instr :=
  match (loNib a).toNat with
  | 0x0 => some (.bsetRegReg (hiNib b) (loNib b))
  | 0x1 => some (.bnotRegReg (hiNib b) (loNib b))
  | 0x2 => some (.bclrRegReg (hiNib b) (loNib b))
  | 0x3 => some (.btstRegReg (hiNib b) (loNib b))
  | 0x4 => some (.orWReg (hiNib b) (loNib b))
  | 0x5 => some (.xorWReg (hiNib b) (loNib b))
  | 0x6 => some (.andWReg (hiNib b) (loNib b))
  | 0x7 => if (hiNib b).msb then some (.bistReg (imm3 (hiNib b)) (loNib b))
           else some (.bstReg (imm3 (hiNib b)) (loNib b))
  | 0x8 => if (hiNib b).msb then some (.movBToInd (loNib b) (erLow (hiNib b)))
           else some (.movBInd (hiNib b) (loNib b))
  | 0x9 => if (hiNib b).msb then some (.movWToInd (loNib b) (erLow (hiNib b)))
           else some (.movWInd (hiNib b) (loNib b))
  | 0xA =>
    match (hiNib b).toNat with
    | 0x0 => some (.movBAbs16 (half c d) (loNib b))
    | 0x2 => onlyIf (c == 0#8) (.movBAbs24 (tri d e f) (loNib b))
    | 0x4 => some (.movfpe (half c d) (loNib b))
    | 0x8 => some (.movBToAbs16 (loNib b) (half c d))
    | 0xA => onlyIf (c == 0#8) (.movBToAbs24 (loNib b) (tri d e f))
    | 0xC => some (.movtpe (loNib b) (half c d))
    | _ => none
  | 0xB =>
    match (hiNib b).toNat with
    | 0x0 => some (.movWAbs16 (half c d) (loNib b))
    | 0x2 => onlyIf (c == 0#8) (.movWAbs24 (tri d e f) (loNib b))
    | 0x8 => some (.movWToAbs16 (loNib b) (half c d))
    | 0xA => onlyIf (c == 0#8) (.movWToAbs24 (loNib b) (tri d e f))
    | _ => none
  | 0xC => if (hiNib b).msb then some (.movBToPreDec (loNib b) (erLow (hiNib b)))
           else some (.movBPostInc (hiNib b) (loNib b))
  | 0xD => if (hiNib b).msb then some (.movWToPreDec (loNib b) (erLow (hiNib b)))
           else some (.movWPostInc (hiNib b) (loNib b))
  | 0xE => if (hiNib b).msb then some (.movBToDisp16 (loNib b) (half c d) (erLow (hiNib b)))
           else some (.movBDisp16 (half c d) (hiNib b) (loNib b))
  | _ => if (hiNib b).msb then some (.movWToDisp16 (loNib b) (half c d) (erLow (hiNib b)))
         else some (.movWDisp16 (half c d) (hiNib b) (loNib b))

/-- First byte 78: `@(d:24,ERn)` of MOV.B and MOV.W (`30_encoding.md` rule R304, format DISP24). -/
def decode78 (b c d e f g h : Byte) : Option Instr :=
  if erOk (hiNib b) && loNib b == 0#4 && e == 0#8 then
    match c.toNat, (hiNib d).toNat with
    | 0x6A, 0x2 => some (.movBDisp24 (tri f g h) (hiNib b) (loNib d))
    | 0x6A, 0xA => some (.movBToDisp24 (loNib d) (tri f g h) (hiNib b))
    | 0x6B, 0x2 => some (.movWDisp24 (tri f g h) (hiNib b) (loNib d))
    | 0x6B, 0xA => some (.movWToDisp24 (loNib d) (tri f g h) (hiNib b))
    | _, _ => none
  else none

/-- First byte 79: 16-bit immediates. -/
def decode79 (b : Byte) (imm : BitVec 16) : Option Instr :=
  match (hiNib b).toNat with
  | 0x0 => some (.movWImm imm (loNib b))
  | 0x1 => some (.addWImm imm (loNib b))
  | 0x2 => some (.cmpWImm imm (loNib b))
  | 0x3 => some (.subWImm imm (loNib b))
  | 0x4 => some (.orWImm imm (loNib b))
  | 0x5 => some (.xorWImm imm (loNib b))
  | 0x6 => some (.andWImm imm (loNib b))
  | _ => none

/-- First byte 7A: 32-bit immediates. -/
def decode7A (b : Byte) (imm : BitVec 32) : Option Instr :=
  if erOk (loNib b) then
    match (hiNib b).toNat with
    | 0x0 => some (.movLImm imm (loNib b))
    | 0x1 => some (.addLImm imm (loNib b))
    | 0x2 => some (.cmpLImm imm (loNib b))
    | 0x3 => some (.subLImm imm (loNib b))
    | 0x4 => some (.orLImm imm (loNib b))
    | 0x5 => some (.xorLImm imm (loNib b))
    | 0x6 => some (.andLImm imm (loNib b))
    | _ => none
  else none

/-- First byte 7B: the block moves, every byte fixed. -/
def decode7B (b c d : Byte) : Option Instr :=
  if c == 0x59#8 && d == 0x8F#8 then
    match b.toNat with
    | 0x5C => some .eepmovB
    | 0xD4 => some .eepmovW
    | _ => none
  else none

/-- First byte 7C: a bit instruction that only reads `@ERd` (`44_bit.md` rule R800). -/
def decode7C (r : ErSel) (c : Byte) (n : BitVec 4) : Option Instr :=
  match c.toNat with
  | 0x63 => some (.btstRegInd n r)
  | 0x73 => onlyIf (!n.msb) (.btstImmInd (imm3 n) r)
  | 0x74 => some (if n.msb then .biorInd (imm3 n) r else .borInd (imm3 n) r)
  | 0x75 => some (if n.msb then .bixorInd (imm3 n) r else .bxorInd (imm3 n) r)
  | 0x76 => some (if n.msb then .biandInd (imm3 n) r else .bandInd (imm3 n) r)
  | 0x77 => some (if n.msb then .bildInd (imm3 n) r else .bldInd (imm3 n) r)
  | _ => none

/-- First byte 7E: a bit instruction that only reads `@aa:8` (`44_bit.md` rule R800). -/
def decode7E (aa : BitVec 8) (c : Byte) (n : BitVec 4) : Option Instr :=
  match c.toNat with
  | 0x63 => some (.btstRegAbs8 n aa)
  | 0x73 => onlyIf (!n.msb) (.btstImmAbs8 (imm3 n) aa)
  | 0x74 => some (if n.msb then .biorAbs8 (imm3 n) aa else .borAbs8 (imm3 n) aa)
  | 0x75 => some (if n.msb then .bixorAbs8 (imm3 n) aa else .bxorAbs8 (imm3 n) aa)
  | 0x76 => some (if n.msb then .biandAbs8 (imm3 n) aa else .bandAbs8 (imm3 n) aa)
  | 0x77 => some (if n.msb then .bildAbs8 (imm3 n) aa else .bldAbs8 (imm3 n) aa)
  | _ => none

/-- First byte 7D: a bit instruction that writes `@ERd` (`44_bit.md` rule R800). -/
def decode7D (r : ErSel) (c : Byte) (n : BitVec 4) : Option Instr :=
  match c.toNat with
  | 0x60 => some (.bsetRegInd n r)
  | 0x61 => some (.bnotRegInd n r)
  | 0x62 => some (.bclrRegInd n r)
  | 0x67 => some (if n.msb then .bistInd (imm3 n) r else .bstInd (imm3 n) r)
  | 0x70 => onlyIf (!n.msb) (.bsetImmInd (imm3 n) r)
  | 0x71 => onlyIf (!n.msb) (.bnotImmInd (imm3 n) r)
  | 0x72 => onlyIf (!n.msb) (.bclrImmInd (imm3 n) r)
  | _ => none

/-- First byte 7F: a bit instruction that writes `@aa:8` (`44_bit.md` rule R800). -/
def decode7F (aa : BitVec 8) (c : Byte) (n : BitVec 4) : Option Instr :=
  match c.toNat with
  | 0x60 => some (.bsetRegAbs8 n aa)
  | 0x61 => some (.bnotRegAbs8 n aa)
  | 0x62 => some (.bclrRegAbs8 n aa)
  | 0x67 => some (if n.msb then .bistAbs8 (imm3 n) aa else .bstAbs8 (imm3 n) aa)
  | 0x70 => onlyIf (!n.msb) (.bsetImmAbs8 (imm3 n) aa)
  | 0x71 => onlyIf (!n.msb) (.bnotImmAbs8 (imm3 n) aa)
  | 0x72 => onlyIf (!n.msb) (.bclrImmAbs8 (imm3 n) aa)
  | _ => none

/-- First byte 7x. -/
def decode7 (a b c d e f g h : Byte) : Option Instr :=
  match (loNib a).toNat with
  | 0x0 => onlyIf (!(hiNib b).msb) (.bsetImmReg (imm3 (hiNib b)) (loNib b))
  | 0x1 => onlyIf (!(hiNib b).msb) (.bnotImmReg (imm3 (hiNib b)) (loNib b))
  | 0x2 => onlyIf (!(hiNib b).msb) (.bclrImmReg (imm3 (hiNib b)) (loNib b))
  | 0x3 => onlyIf (!(hiNib b).msb) (.btstImmReg (imm3 (hiNib b)) (loNib b))
  | 0x4 => some (if (hiNib b).msb then .biorReg (imm3 (hiNib b)) (loNib b) else .borReg (imm3 (hiNib b)) (loNib b))
  | 0x5 => some (if (hiNib b).msb then .bixorReg (imm3 (hiNib b)) (loNib b) else .bxorReg (imm3 (hiNib b)) (loNib b))
  | 0x6 => some (if (hiNib b).msb then .biandReg (imm3 (hiNib b)) (loNib b) else .bandReg (imm3 (hiNib b)) (loNib b))
  | 0x7 => some (if (hiNib b).msb then .bildReg (imm3 (hiNib b)) (loNib b) else .bldReg (imm3 (hiNib b)) (loNib b))
  | 0x8 => decode78 b c d e f g h
  | 0x9 => decode79 b (half c d)
  | 0xA => decode7A b (quad c d e f)
  | 0xB => decode7B b c d
  | 0xC => if erOk (hiNib b) && loNib b == 0#4 && loNib d == 0#4 then decode7C (hiNib b) c (hiNib d) else none
  | 0xD => if erOk (hiNib b) && loNib b == 0#4 && loNib d == 0#4 then decode7D (hiNib b) c (hiNib d) else none
  | 0xE => if loNib d == 0#4 then decode7E b c (hiNib d) else none
  | _ => if loNib d == 0#4 then decode7F b c (hiNib d) else none

/-- The row that ten bytes at pc match, if any (`30_encoding.md` rules R321, R350, R351). -/
def decodeRow (a b c d e f g h i j : Byte) : Option Instr :=
  match (hiNib a).toNat with
  | 0x0 => decode0 a b c d e f g h i j
  | 0x1 => decode1 a b
  | 0x2 => some (.movBAbs8 b (loNib a))
  | 0x3 => some (.movBToAbs8 (loNib a) b)
  | 0x4 => some (decodeBcc (loNib a) (.d8 b))
  | 0x5 => decode5 a b c d
  | 0x6 => decode6 a b c d e f
  | 0x7 => decode7 a b c d e f g h
  | 0x8 => some (.addBImm b (loNib a))
  | 0x9 => some (.addxImm b (loNib a))
  | 0xA => some (.cmpBImm b (loNib a))
  | 0xB => some (.subxImm b (loNib a))
  | 0xC => some (.orBImm b (loNib a))
  | 0xD => some (.xorBImm b (loNib a))
  | 0xE => some (.andBImm b (loNib a))
  | _ => some (.movBImm b (loNib a))

/-! ### The encoder -/

/-- The bytes of an instruction, from the encoding column of `30_encoding.md` rule R350. -/
def encode : Instr → List Byte
  | .movBReg rs rd => [0x0C#8, nb rs rd]
  | .movWReg rs rd => [0x0D#8, nb rs rd]
  | .movLReg rs rd => [0x0F#8, nb (er1 rs) rd]
  | .movBImm imm rd => [nb 0xF#4 rd, imm]
  | .movWImm imm rd => [0x79#8, nb 0x0#4 rd] ++ bytes16 imm
  | .movLImm imm rd => [0x7A#8, nb 0x0#4 rd] ++ bytes32 imm
  | .movBInd rs rd => [0x68#8, nb rs rd]
  | .movWInd rs rd => [0x69#8, nb rs rd]
  | .movLInd rs rd => [0x01#8, 0x00#8, 0x69#8, nb rs rd]
  | .movBToInd rs rd => [0x68#8, nb (er1 rd) rs]
  | .movWToInd rs rd => [0x69#8, nb (er1 rd) rs]
  | .movLToInd rs rd => [0x01#8, 0x00#8, 0x69#8, nb (er1 rd) rs]
  | .movBDisp16 disp rs rd => [0x6E#8, nb rs rd] ++ bytes16 disp
  | .movWDisp16 disp rs rd => [0x6F#8, nb rs rd] ++ bytes16 disp
  | .movLDisp16 disp rs rd => [0x01#8, 0x00#8, 0x6F#8, nb rs rd] ++ bytes16 disp
  | .movBToDisp16 rs disp rd => [0x6E#8, nb (er1 rd) rs] ++ bytes16 disp
  | .movWToDisp16 rs disp rd => [0x6F#8, nb (er1 rd) rs] ++ bytes16 disp
  | .movLToDisp16 rs disp rd => [0x01#8, 0x00#8, 0x6F#8, nb (er1 rd) rs] ++ bytes16 disp
  | .movBDisp24 disp rs rd => [0x78#8, nb rs 0x0#4, 0x6A#8, nb 0x2#4 rd, 0x00#8] ++ bytes24 disp
  | .movWDisp24 disp rs rd => [0x78#8, nb rs 0x0#4, 0x6B#8, nb 0x2#4 rd, 0x00#8] ++ bytes24 disp
  | .movLDisp24 disp rs rd => [0x01#8, 0x00#8, 0x78#8, nb rs 0x0#4, 0x6B#8, nb 0x2#4 rd, 0x00#8] ++ bytes24 disp
  | .movBToDisp24 rs disp rd => [0x78#8, nb rd 0x0#4, 0x6A#8, nb 0xA#4 rs, 0x00#8] ++ bytes24 disp
  | .movWToDisp24 rs disp rd => [0x78#8, nb rd 0x0#4, 0x6B#8, nb 0xA#4 rs, 0x00#8] ++ bytes24 disp
  | .movLToDisp24 rs disp rd => [0x01#8, 0x00#8, 0x78#8, nb rd 0x0#4, 0x6B#8, nb 0xA#4 rs, 0x00#8] ++ bytes24 disp
  | .movBPostInc rs rd => [0x6C#8, nb rs rd]
  | .movWPostInc rs rd => [0x6D#8, nb rs rd]
  | .movLPostInc rs rd => [0x01#8, 0x00#8, 0x6D#8, nb rs rd]
  | .movBToPreDec rs rd => [0x6C#8, nb (er1 rd) rs]
  | .movWToPreDec rs rd => [0x6D#8, nb (er1 rd) rs]
  | .movLToPreDec rs rd => [0x01#8, 0x00#8, 0x6D#8, nb (er1 rd) rs]
  | .movBAbs8 abs rd => [nb 0x2#4 rd, abs]
  | .movBAbs16 abs rd => [0x6A#8, nb 0x0#4 rd] ++ bytes16 abs
  | .movBAbs24 abs rd => [0x6A#8, nb 0x2#4 rd, 0x00#8] ++ bytes24 abs
  | .movWAbs16 abs rd => [0x6B#8, nb 0x0#4 rd] ++ bytes16 abs
  | .movWAbs24 abs rd => [0x6B#8, nb 0x2#4 rd, 0x00#8] ++ bytes24 abs
  | .movLAbs16 abs rd => [0x01#8, 0x00#8, 0x6B#8, nb 0x0#4 rd] ++ bytes16 abs
  | .movLAbs24 abs rd => [0x01#8, 0x00#8, 0x6B#8, nb 0x2#4 rd, 0x00#8] ++ bytes24 abs
  | .movBToAbs8 rs abs => [nb 0x3#4 rs, abs]
  | .movBToAbs16 rs abs => [0x6A#8, nb 0x8#4 rs] ++ bytes16 abs
  | .movBToAbs24 rs abs => [0x6A#8, nb 0xA#4 rs, 0x00#8] ++ bytes24 abs
  | .movWToAbs16 rs abs => [0x6B#8, nb 0x8#4 rs] ++ bytes16 abs
  | .movWToAbs24 rs abs => [0x6B#8, nb 0xA#4 rs, 0x00#8] ++ bytes24 abs
  | .movLToAbs16 rs abs => [0x01#8, 0x00#8, 0x6B#8, nb 0x8#4 rs] ++ bytes16 abs
  | .movLToAbs24 rs abs => [0x01#8, 0x00#8, 0x6B#8, nb 0xA#4 rs, 0x00#8] ++ bytes24 abs
  | .eepmovB => [0x7B#8, 0x5C#8, 0x59#8, 0x8F#8]
  | .eepmovW => [0x7B#8, 0xD4#8, 0x59#8, 0x8F#8]
  | .movfpe abs rd => [0x6A#8, nb 0x4#4 rd] ++ bytes16 abs
  | .movtpe rs abs => [0x6A#8, nb 0xC#4 rs] ++ bytes16 abs
  | .addBImm imm rd => [nb 0x8#4 rd, imm]
  | .addBReg rs rd => [0x08#8, nb rs rd]
  | .addWImm imm rd => [0x79#8, nb 0x1#4 rd] ++ bytes16 imm
  | .addWReg rs rd => [0x09#8, nb rs rd]
  | .addLImm imm rd => [0x7A#8, nb 0x1#4 rd] ++ bytes32 imm
  | .addLReg rs rd => [0x0A#8, nb (er1 rs) rd]
  | .addxImm imm rd => [nb 0x9#4 rd, imm]
  | .addxReg rs rd => [0x0E#8, nb rs rd]
  | .adds1 rd => [0x0B#8, nb 0x0#4 rd]
  | .adds2 rd => [0x0B#8, nb 0x8#4 rd]
  | .adds4 rd => [0x0B#8, nb 0x9#4 rd]
  | .incB rd => [0x0A#8, nb 0x0#4 rd]
  | .incW1 rd => [0x0B#8, nb 0x5#4 rd]
  | .incW2 rd => [0x0B#8, nb 0xD#4 rd]
  | .incL1 rd => [0x0B#8, nb 0x7#4 rd]
  | .incL2 rd => [0x0B#8, nb 0xF#4 rd]
  | .daa rd => [0x0F#8, nb 0x0#4 rd]
  | .subBReg rs rd => [0x18#8, nb rs rd]
  | .subWImm imm rd => [0x79#8, nb 0x3#4 rd] ++ bytes16 imm
  | .subWReg rs rd => [0x19#8, nb rs rd]
  | .subLImm imm rd => [0x7A#8, nb 0x3#4 rd] ++ bytes32 imm
  | .subLReg rs rd => [0x1A#8, nb (er1 rs) rd]
  | .subxImm imm rd => [nb 0xB#4 rd, imm]
  | .subxReg rs rd => [0x1E#8, nb rs rd]
  | .subs1 rd => [0x1B#8, nb 0x0#4 rd]
  | .subs2 rd => [0x1B#8, nb 0x8#4 rd]
  | .subs4 rd => [0x1B#8, nb 0x9#4 rd]
  | .decB rd => [0x1A#8, nb 0x0#4 rd]
  | .decW1 rd => [0x1B#8, nb 0x5#4 rd]
  | .decW2 rd => [0x1B#8, nb 0xD#4 rd]
  | .decL1 rd => [0x1B#8, nb 0x7#4 rd]
  | .decL2 rd => [0x1B#8, nb 0xF#4 rd]
  | .das rd => [0x1F#8, nb 0x0#4 rd]
  | .negB rd => [0x17#8, nb 0x8#4 rd]
  | .negW rd => [0x17#8, nb 0x9#4 rd]
  | .negL rd => [0x17#8, nb 0xB#4 rd]
  | .cmpBImm imm rd => [nb 0xA#4 rd, imm]
  | .cmpBReg rs rd => [0x1C#8, nb rs rd]
  | .cmpWImm imm rd => [0x79#8, nb 0x2#4 rd] ++ bytes16 imm
  | .cmpWReg rs rd => [0x1D#8, nb rs rd]
  | .cmpLImm imm rd => [0x7A#8, nb 0x2#4 rd] ++ bytes32 imm
  | .cmpLReg rs rd => [0x1F#8, nb (er1 rs) rd]
  | .mulxuB rs rd => [0x50#8, nb rs rd]
  | .mulxuW rs rd => [0x52#8, nb rs rd]
  | .mulxsB rs rd => [0x01#8, 0xC0#8, 0x50#8, nb rs rd]
  | .mulxsW rs rd => [0x01#8, 0xC0#8, 0x52#8, nb rs rd]
  | .divxuB rs rd => [0x51#8, nb rs rd]
  | .divxuW rs rd => [0x53#8, nb rs rd]
  | .divxsB rs rd => [0x01#8, 0xD0#8, 0x51#8, nb rs rd]
  | .divxsW rs rd => [0x01#8, 0xD0#8, 0x53#8, nb rs rd]
  | .extuW rd => [0x17#8, nb 0x5#4 rd]
  | .extuL rd => [0x17#8, nb 0x7#4 rd]
  | .extsW rd => [0x17#8, nb 0xD#4 rd]
  | .extsL rd => [0x17#8, nb 0xF#4 rd]
  | .andBImm imm rd => [nb 0xE#4 rd, imm]
  | .andBReg rs rd => [0x16#8, nb rs rd]
  | .andWImm imm rd => [0x79#8, nb 0x6#4 rd] ++ bytes16 imm
  | .andWReg rs rd => [0x66#8, nb rs rd]
  | .andLImm imm rd => [0x7A#8, nb 0x6#4 rd] ++ bytes32 imm
  | .andLReg rs rd => [0x01#8, 0xF0#8, 0x66#8, nb rs rd]
  | .orBImm imm rd => [nb 0xC#4 rd, imm]
  | .orBReg rs rd => [0x14#8, nb rs rd]
  | .orWImm imm rd => [0x79#8, nb 0x4#4 rd] ++ bytes16 imm
  | .orWReg rs rd => [0x64#8, nb rs rd]
  | .orLImm imm rd => [0x7A#8, nb 0x4#4 rd] ++ bytes32 imm
  | .orLReg rs rd => [0x01#8, 0xF0#8, 0x64#8, nb rs rd]
  | .xorBImm imm rd => [nb 0xD#4 rd, imm]
  | .xorBReg rs rd => [0x15#8, nb rs rd]
  | .xorWImm imm rd => [0x79#8, nb 0x5#4 rd] ++ bytes16 imm
  | .xorWReg rs rd => [0x65#8, nb rs rd]
  | .xorLImm imm rd => [0x7A#8, nb 0x5#4 rd] ++ bytes32 imm
  | .xorLReg rs rd => [0x01#8, 0xF0#8, 0x65#8, nb rs rd]
  | .notB rd => [0x17#8, nb 0x0#4 rd]
  | .notW rd => [0x17#8, nb 0x1#4 rd]
  | .notL rd => [0x17#8, nb 0x3#4 rd]
  | .shalB rd => [0x10#8, nb 0x8#4 rd]
  | .shalW rd => [0x10#8, nb 0x9#4 rd]
  | .shalL rd => [0x10#8, nb 0xB#4 rd]
  | .sharB rd => [0x11#8, nb 0x8#4 rd]
  | .sharW rd => [0x11#8, nb 0x9#4 rd]
  | .sharL rd => [0x11#8, nb 0xB#4 rd]
  | .shllB rd => [0x10#8, nb 0x0#4 rd]
  | .shllW rd => [0x10#8, nb 0x1#4 rd]
  | .shllL rd => [0x10#8, nb 0x3#4 rd]
  | .shlrB rd => [0x11#8, nb 0x0#4 rd]
  | .shlrW rd => [0x11#8, nb 0x1#4 rd]
  | .shlrL rd => [0x11#8, nb 0x3#4 rd]
  | .rotlB rd => [0x12#8, nb 0x8#4 rd]
  | .rotlW rd => [0x12#8, nb 0x9#4 rd]
  | .rotlL rd => [0x12#8, nb 0xB#4 rd]
  | .rotrB rd => [0x13#8, nb 0x8#4 rd]
  | .rotrW rd => [0x13#8, nb 0x9#4 rd]
  | .rotrL rd => [0x13#8, nb 0xB#4 rd]
  | .rotxlB rd => [0x12#8, nb 0x0#4 rd]
  | .rotxlW rd => [0x12#8, nb 0x1#4 rd]
  | .rotxlL rd => [0x12#8, nb 0x3#4 rd]
  | .rotxrB rd => [0x13#8, nb 0x0#4 rd]
  | .rotxrW rd => [0x13#8, nb 0x1#4 rd]
  | .rotxrL rd => [0x13#8, nb 0x3#4 rd]
  | .bsetImmReg imm rd => [0x70#8, nb (0#1 ++ imm) rd]
  | .bsetRegReg rn rd => [0x60#8, nb rn rd]
  | .bsetImmInd imm rd => [0x7D#8, nb rd 0x0#4, 0x70#8, nb (0#1 ++ imm) 0x0#4]
  | .bsetRegInd rn rd => [0x7D#8, nb rd 0x0#4, 0x60#8, nb rn 0x0#4]
  | .bsetImmAbs8 imm abs => [0x7F#8, abs, 0x70#8, nb (0#1 ++ imm) 0x0#4]
  | .bsetRegAbs8 rn abs => [0x7F#8, abs, 0x60#8, nb rn 0x0#4]
  | .bnotImmReg imm rd => [0x71#8, nb (0#1 ++ imm) rd]
  | .bnotRegReg rn rd => [0x61#8, nb rn rd]
  | .bnotImmInd imm rd => [0x7D#8, nb rd 0x0#4, 0x71#8, nb (0#1 ++ imm) 0x0#4]
  | .bnotRegInd rn rd => [0x7D#8, nb rd 0x0#4, 0x61#8, nb rn 0x0#4]
  | .bnotImmAbs8 imm abs => [0x7F#8, abs, 0x71#8, nb (0#1 ++ imm) 0x0#4]
  | .bnotRegAbs8 rn abs => [0x7F#8, abs, 0x61#8, nb rn 0x0#4]
  | .bclrImmReg imm rd => [0x72#8, nb (0#1 ++ imm) rd]
  | .bclrRegReg rn rd => [0x62#8, nb rn rd]
  | .bclrImmInd imm rd => [0x7D#8, nb rd 0x0#4, 0x72#8, nb (0#1 ++ imm) 0x0#4]
  | .bclrRegInd rn rd => [0x7D#8, nb rd 0x0#4, 0x62#8, nb rn 0x0#4]
  | .bclrImmAbs8 imm abs => [0x7F#8, abs, 0x72#8, nb (0#1 ++ imm) 0x0#4]
  | .bclrRegAbs8 rn abs => [0x7F#8, abs, 0x62#8, nb rn 0x0#4]
  | .btstImmReg imm rd => [0x73#8, nb (0#1 ++ imm) rd]
  | .btstRegReg rn rd => [0x63#8, nb rn rd]
  | .btstImmInd imm rd => [0x7C#8, nb rd 0x0#4, 0x73#8, nb (0#1 ++ imm) 0x0#4]
  | .btstRegInd rn rd => [0x7C#8, nb rd 0x0#4, 0x63#8, nb rn 0x0#4]
  | .btstImmAbs8 imm abs => [0x7E#8, abs, 0x73#8, nb (0#1 ++ imm) 0x0#4]
  | .btstRegAbs8 rn abs => [0x7E#8, abs, 0x63#8, nb rn 0x0#4]
  | .bldReg imm rd => [0x77#8, nb (0#1 ++ imm) rd]
  | .bldInd imm rd => [0x7C#8, nb rd 0x0#4, 0x77#8, nb (0#1 ++ imm) 0x0#4]
  | .bldAbs8 imm abs => [0x7E#8, abs, 0x77#8, nb (0#1 ++ imm) 0x0#4]
  | .bildReg imm rd => [0x77#8, nb (1#1 ++ imm) rd]
  | .bildInd imm rd => [0x7C#8, nb rd 0x0#4, 0x77#8, nb (1#1 ++ imm) 0x0#4]
  | .bildAbs8 imm abs => [0x7E#8, abs, 0x77#8, nb (1#1 ++ imm) 0x0#4]
  | .bstReg imm rd => [0x67#8, nb (0#1 ++ imm) rd]
  | .bstInd imm rd => [0x7D#8, nb rd 0x0#4, 0x67#8, nb (0#1 ++ imm) 0x0#4]
  | .bstAbs8 imm abs => [0x7F#8, abs, 0x67#8, nb (0#1 ++ imm) 0x0#4]
  | .bistReg imm rd => [0x67#8, nb (1#1 ++ imm) rd]
  | .bistInd imm rd => [0x7D#8, nb rd 0x0#4, 0x67#8, nb (1#1 ++ imm) 0x0#4]
  | .bistAbs8 imm abs => [0x7F#8, abs, 0x67#8, nb (1#1 ++ imm) 0x0#4]
  | .bandReg imm rd => [0x76#8, nb (0#1 ++ imm) rd]
  | .bandInd imm rd => [0x7C#8, nb rd 0x0#4, 0x76#8, nb (0#1 ++ imm) 0x0#4]
  | .bandAbs8 imm abs => [0x7E#8, abs, 0x76#8, nb (0#1 ++ imm) 0x0#4]
  | .biandReg imm rd => [0x76#8, nb (1#1 ++ imm) rd]
  | .biandInd imm rd => [0x7C#8, nb rd 0x0#4, 0x76#8, nb (1#1 ++ imm) 0x0#4]
  | .biandAbs8 imm abs => [0x7E#8, abs, 0x76#8, nb (1#1 ++ imm) 0x0#4]
  | .borReg imm rd => [0x74#8, nb (0#1 ++ imm) rd]
  | .borInd imm rd => [0x7C#8, nb rd 0x0#4, 0x74#8, nb (0#1 ++ imm) 0x0#4]
  | .borAbs8 imm abs => [0x7E#8, abs, 0x74#8, nb (0#1 ++ imm) 0x0#4]
  | .biorReg imm rd => [0x74#8, nb (1#1 ++ imm) rd]
  | .biorInd imm rd => [0x7C#8, nb rd 0x0#4, 0x74#8, nb (1#1 ++ imm) 0x0#4]
  | .biorAbs8 imm abs => [0x7E#8, abs, 0x74#8, nb (1#1 ++ imm) 0x0#4]
  | .bxorReg imm rd => [0x75#8, nb (0#1 ++ imm) rd]
  | .bxorInd imm rd => [0x7C#8, nb rd 0x0#4, 0x75#8, nb (0#1 ++ imm) 0x0#4]
  | .bxorAbs8 imm abs => [0x7E#8, abs, 0x75#8, nb (0#1 ++ imm) 0x0#4]
  | .bixorReg imm rd => [0x75#8, nb (1#1 ++ imm) rd]
  | .bixorInd imm rd => [0x7C#8, nb rd 0x0#4, 0x75#8, nb (1#1 ++ imm) 0x0#4]
  | .bixorAbs8 imm abs => [0x7E#8, abs, 0x75#8, nb (1#1 ++ imm) 0x0#4]
  | .bra (.d8 disp) => [0x40#8, disp]
  | .bra (.d16 disp) => [0x58#8, 0x00#8] ++ bytes16 disp
  | .brn (.d8 disp) => [0x41#8, disp]
  | .brn (.d16 disp) => [0x58#8, 0x10#8] ++ bytes16 disp
  | .bhi (.d8 disp) => [0x42#8, disp]
  | .bhi (.d16 disp) => [0x58#8, 0x20#8] ++ bytes16 disp
  | .bls (.d8 disp) => [0x43#8, disp]
  | .bls (.d16 disp) => [0x58#8, 0x30#8] ++ bytes16 disp
  | .bcc (.d8 disp) => [0x44#8, disp]
  | .bcc (.d16 disp) => [0x58#8, 0x40#8] ++ bytes16 disp
  | .bcs (.d8 disp) => [0x45#8, disp]
  | .bcs (.d16 disp) => [0x58#8, 0x50#8] ++ bytes16 disp
  | .bne (.d8 disp) => [0x46#8, disp]
  | .bne (.d16 disp) => [0x58#8, 0x60#8] ++ bytes16 disp
  | .beq (.d8 disp) => [0x47#8, disp]
  | .beq (.d16 disp) => [0x58#8, 0x70#8] ++ bytes16 disp
  | .bvc (.d8 disp) => [0x48#8, disp]
  | .bvc (.d16 disp) => [0x58#8, 0x80#8] ++ bytes16 disp
  | .bvs (.d8 disp) => [0x49#8, disp]
  | .bvs (.d16 disp) => [0x58#8, 0x90#8] ++ bytes16 disp
  | .bpl (.d8 disp) => [0x4A#8, disp]
  | .bpl (.d16 disp) => [0x58#8, 0xA0#8] ++ bytes16 disp
  | .bmi (.d8 disp) => [0x4B#8, disp]
  | .bmi (.d16 disp) => [0x58#8, 0xB0#8] ++ bytes16 disp
  | .bge (.d8 disp) => [0x4C#8, disp]
  | .bge (.d16 disp) => [0x58#8, 0xC0#8] ++ bytes16 disp
  | .blt (.d8 disp) => [0x4D#8, disp]
  | .blt (.d16 disp) => [0x58#8, 0xD0#8] ++ bytes16 disp
  | .bgt (.d8 disp) => [0x4E#8, disp]
  | .bgt (.d16 disp) => [0x58#8, 0xE0#8] ++ bytes16 disp
  | .ble (.d8 disp) => [0x4F#8, disp]
  | .ble (.d16 disp) => [0x58#8, 0xF0#8] ++ bytes16 disp
  | .jmpInd rn => [0x59#8, nb rn 0x0#4]
  | .jmpAbs24 abs => [0x5A#8] ++ bytes24 abs
  | .jmpMemInd abs => [0x5B#8, abs]
  | .bsr (.d8 disp) => [0x55#8, disp]
  | .bsr (.d16 disp) => [0x5C#8, 0x00#8] ++ bytes16 disp
  | .jsrInd rn => [0x5D#8, nb rn 0x0#4]
  | .jsrAbs24 abs => [0x5E#8] ++ bytes24 abs
  | .jsrMemInd abs => [0x5F#8, abs]
  | .rts => [0x54#8, 0x70#8]
  | .ldcBImm imm => [0x07#8, imm]
  | .ldcBReg rs => [0x03#8, nb 0x0#4 rs]
  | .ldcWInd rs => [0x01#8, 0x40#8, 0x69#8, nb rs 0x0#4]
  | .ldcWDisp16 disp rs => [0x01#8, 0x40#8, 0x6F#8, nb rs 0x0#4] ++ bytes16 disp
  | .ldcWDisp24 disp rs => [0x01#8, 0x40#8, 0x78#8, nb rs 0x0#4, 0x6B#8, 0x20#8, 0x00#8] ++ bytes24 disp
  | .ldcWPostInc rs => [0x01#8, 0x40#8, 0x6D#8, nb rs 0x0#4]
  | .ldcWAbs16 abs => [0x01#8, 0x40#8, 0x6B#8, 0x00#8] ++ bytes16 abs
  | .ldcWAbs24 abs => [0x01#8, 0x40#8, 0x6B#8, 0x20#8, 0x00#8] ++ bytes24 abs
  | .stcBReg rd => [0x02#8, nb 0x0#4 rd]
  | .stcWToInd rd => [0x01#8, 0x40#8, 0x69#8, nb (er1 rd) 0x0#4]
  | .stcWToDisp16 disp rd => [0x01#8, 0x40#8, 0x6F#8, nb (er1 rd) 0x0#4] ++ bytes16 disp
  | .stcWToDisp24 disp rd => [0x01#8, 0x40#8, 0x78#8, nb rd 0x0#4, 0x6B#8, 0xA0#8, 0x00#8] ++ bytes24 disp
  | .stcWToPreDec rd => [0x01#8, 0x40#8, 0x6D#8, nb (er1 rd) 0x0#4]
  | .stcWToAbs16 abs => [0x01#8, 0x40#8, 0x6B#8, 0x80#8] ++ bytes16 abs
  | .stcWToAbs24 abs => [0x01#8, 0x40#8, 0x6B#8, 0xA0#8, 0x00#8] ++ bytes24 abs
  | .andc imm => [0x06#8, imm]
  | .orc imm => [0x04#8, imm]
  | .xorc imm => [0x05#8, imm]
  | .trapa imm => [0x57#8, nb (0#2 ++ imm) 0x0#4]
  | .nop => [0x00#8, 0x00#8]
  | .sleep => [0x01#8, 0x80#8]
  | .rte => [0x56#8, 0x70#8]

/-- The number of bytes of an instruction (`30_encoding.md` rule R303). -/
def Instr.length (i : Instr) : Nat := (encode i).length

/-- The rows that set pc themselves, whose declared length is 0 (`30_encoding.md` rule R320). -/
def Instr.setsPc : Instr → Bool
  | .movBReg _ _ => false
  | .movWReg _ _ => false
  | .movLReg _ _ => false
  | .movBImm _ _ => false
  | .movWImm _ _ => false
  | .movLImm _ _ => false
  | .movBInd _ _ => false
  | .movWInd _ _ => false
  | .movLInd _ _ => false
  | .movBToInd _ _ => false
  | .movWToInd _ _ => false
  | .movLToInd _ _ => false
  | .movBDisp16 _ _ _ => false
  | .movWDisp16 _ _ _ => false
  | .movLDisp16 _ _ _ => false
  | .movBToDisp16 _ _ _ => false
  | .movWToDisp16 _ _ _ => false
  | .movLToDisp16 _ _ _ => false
  | .movBDisp24 _ _ _ => false
  | .movWDisp24 _ _ _ => false
  | .movLDisp24 _ _ _ => false
  | .movBToDisp24 _ _ _ => false
  | .movWToDisp24 _ _ _ => false
  | .movLToDisp24 _ _ _ => false
  | .movBPostInc _ _ => false
  | .movWPostInc _ _ => false
  | .movLPostInc _ _ => false
  | .movBToPreDec _ _ => false
  | .movWToPreDec _ _ => false
  | .movLToPreDec _ _ => false
  | .movBAbs8 _ _ => false
  | .movBAbs16 _ _ => true
  | .movBAbs24 _ _ => true
  | .movWAbs16 _ _ => true
  | .movWAbs24 _ _ => true
  | .movLAbs16 _ _ => false
  | .movLAbs24 _ _ => false
  | .movBToAbs8 _ _ => false
  | .movBToAbs16 _ _ => true
  | .movBToAbs24 _ _ => true
  | .movWToAbs16 _ _ => true
  | .movWToAbs24 _ _ => true
  | .movLToAbs16 _ _ => false
  | .movLToAbs24 _ _ => false
  | .eepmovB => false
  | .eepmovW => false
  | .movfpe _ _ => false
  | .movtpe _ _ => false
  | .addBImm _ _ => false
  | .addBReg _ _ => false
  | .addWImm _ _ => false
  | .addWReg _ _ => false
  | .addLImm _ _ => false
  | .addLReg _ _ => false
  | .addxImm _ _ => false
  | .addxReg _ _ => false
  | .adds1 _ => false
  | .adds2 _ => false
  | .adds4 _ => false
  | .incB _ => false
  | .incW1 _ => false
  | .incW2 _ => false
  | .incL1 _ => false
  | .incL2 _ => false
  | .daa _ => false
  | .subBReg _ _ => false
  | .subWImm _ _ => false
  | .subWReg _ _ => false
  | .subLImm _ _ => false
  | .subLReg _ _ => false
  | .subxImm _ _ => false
  | .subxReg _ _ => false
  | .subs1 _ => false
  | .subs2 _ => false
  | .subs4 _ => false
  | .decB _ => false
  | .decW1 _ => false
  | .decW2 _ => false
  | .decL1 _ => false
  | .decL2 _ => false
  | .das _ => false
  | .negB _ => false
  | .negW _ => false
  | .negL _ => false
  | .cmpBImm _ _ => false
  | .cmpBReg _ _ => false
  | .cmpWImm _ _ => false
  | .cmpWReg _ _ => false
  | .cmpLImm _ _ => false
  | .cmpLReg _ _ => false
  | .mulxuB _ _ => false
  | .mulxuW _ _ => false
  | .mulxsB _ _ => false
  | .mulxsW _ _ => false
  | .divxuB _ _ => false
  | .divxuW _ _ => false
  | .divxsB _ _ => false
  | .divxsW _ _ => false
  | .extuW _ => false
  | .extuL _ => false
  | .extsW _ => false
  | .extsL _ => false
  | .andBImm _ _ => false
  | .andBReg _ _ => false
  | .andWImm _ _ => false
  | .andWReg _ _ => false
  | .andLImm _ _ => false
  | .andLReg _ _ => false
  | .orBImm _ _ => false
  | .orBReg _ _ => false
  | .orWImm _ _ => false
  | .orWReg _ _ => false
  | .orLImm _ _ => false
  | .orLReg _ _ => false
  | .xorBImm _ _ => false
  | .xorBReg _ _ => false
  | .xorWImm _ _ => false
  | .xorWReg _ _ => false
  | .xorLImm _ _ => false
  | .xorLReg _ _ => false
  | .notB _ => false
  | .notW _ => false
  | .notL _ => false
  | .shalB _ => false
  | .shalW _ => false
  | .shalL _ => false
  | .sharB _ => false
  | .sharW _ => false
  | .sharL _ => false
  | .shllB _ => false
  | .shllW _ => false
  | .shllL _ => false
  | .shlrB _ => false
  | .shlrW _ => false
  | .shlrL _ => false
  | .rotlB _ => false
  | .rotlW _ => false
  | .rotlL _ => false
  | .rotrB _ => false
  | .rotrW _ => false
  | .rotrL _ => false
  | .rotxlB _ => false
  | .rotxlW _ => false
  | .rotxlL _ => false
  | .rotxrB _ => false
  | .rotxrW _ => false
  | .rotxrL _ => false
  | .bsetImmReg _ _ => false
  | .bsetRegReg _ _ => false
  | .bsetImmInd _ _ => false
  | .bsetRegInd _ _ => false
  | .bsetImmAbs8 _ _ => false
  | .bsetRegAbs8 _ _ => false
  | .bnotImmReg _ _ => false
  | .bnotRegReg _ _ => false
  | .bnotImmInd _ _ => false
  | .bnotRegInd _ _ => false
  | .bnotImmAbs8 _ _ => false
  | .bnotRegAbs8 _ _ => false
  | .bclrImmReg _ _ => false
  | .bclrRegReg _ _ => false
  | .bclrImmInd _ _ => false
  | .bclrRegInd _ _ => false
  | .bclrImmAbs8 _ _ => false
  | .bclrRegAbs8 _ _ => false
  | .btstImmReg _ _ => false
  | .btstRegReg _ _ => false
  | .btstImmInd _ _ => false
  | .btstRegInd _ _ => false
  | .btstImmAbs8 _ _ => false
  | .btstRegAbs8 _ _ => false
  | .bldReg _ _ => false
  | .bldInd _ _ => false
  | .bldAbs8 _ _ => false
  | .bildReg _ _ => false
  | .bildInd _ _ => false
  | .bildAbs8 _ _ => false
  | .bstReg _ _ => false
  | .bstInd _ _ => false
  | .bstAbs8 _ _ => false
  | .bistReg _ _ => false
  | .bistInd _ _ => false
  | .bistAbs8 _ _ => false
  | .bandReg _ _ => false
  | .bandInd _ _ => false
  | .bandAbs8 _ _ => false
  | .biandReg _ _ => false
  | .biandInd _ _ => false
  | .biandAbs8 _ _ => false
  | .borReg _ _ => false
  | .borInd _ _ => false
  | .borAbs8 _ _ => false
  | .biorReg _ _ => false
  | .biorInd _ _ => false
  | .biorAbs8 _ _ => false
  | .bxorReg _ _ => false
  | .bxorInd _ _ => false
  | .bxorAbs8 _ _ => false
  | .bixorReg _ _ => false
  | .bixorInd _ _ => false
  | .bixorAbs8 _ _ => false
  | .bra _ => true
  | .brn _ => true
  | .bhi _ => true
  | .bls _ => true
  | .bcc _ => true
  | .bcs _ => true
  | .bne _ => true
  | .beq _ => true
  | .bvc _ => true
  | .bvs _ => true
  | .bpl _ => true
  | .bmi _ => true
  | .bge _ => true
  | .blt _ => true
  | .bgt _ => true
  | .ble _ => true
  | .jmpInd _ => true
  | .jmpAbs24 _ => true
  | .jmpMemInd _ => true
  | .bsr _ => true
  | .jsrInd _ => true
  | .jsrAbs24 _ => true
  | .jsrMemInd _ => true
  | .rts => true
  | .ldcBImm _ => false
  | .ldcBReg _ => false
  | .ldcWInd _ => false
  | .ldcWDisp16 _ _ => false
  | .ldcWDisp24 _ _ => false
  | .ldcWPostInc _ => false
  | .ldcWAbs16 _ => false
  | .ldcWAbs24 _ => false
  | .stcBReg _ => false
  | .stcWToInd _ => false
  | .stcWToDisp16 _ _ => false
  | .stcWToDisp24 _ _ => false
  | .stcWToPreDec _ => false
  | .stcWToAbs16 _ => false
  | .stcWToAbs24 _ => false
  | .andc _ => false
  | .orc _ => false
  | .xorc _ => false
  | .trapa _ => false
  | .nop => false
  | .sleep => false
  | .rte => true

/-- What the core adds to pc after the executor (`30_encoding.md` rule R320). -/
def Instr.declaredLength (i : Instr) : Nat := if i.setsPc then 0 else i.length

/-- The instruction's row in `spec/opcode_table.json`, the first being row 0: the index of `CYCLES`. -/
def Instr.row : Instr → Nat
  | .movBReg _ _ => 0
  | .movWReg _ _ => 1
  | .movLReg _ _ => 2
  | .movBImm _ _ => 3
  | .movWImm _ _ => 4
  | .movLImm _ _ => 5
  | .movBInd _ _ => 6
  | .movWInd _ _ => 7
  | .movLInd _ _ => 8
  | .movBToInd _ _ => 9
  | .movWToInd _ _ => 10
  | .movLToInd _ _ => 11
  | .movBDisp16 _ _ _ => 12
  | .movWDisp16 _ _ _ => 13
  | .movLDisp16 _ _ _ => 14
  | .movBToDisp16 _ _ _ => 15
  | .movWToDisp16 _ _ _ => 16
  | .movLToDisp16 _ _ _ => 17
  | .movBDisp24 _ _ _ => 18
  | .movWDisp24 _ _ _ => 19
  | .movLDisp24 _ _ _ => 20
  | .movBToDisp24 _ _ _ => 21
  | .movWToDisp24 _ _ _ => 22
  | .movLToDisp24 _ _ _ => 23
  | .movBPostInc _ _ => 24
  | .movWPostInc _ _ => 25
  | .movLPostInc _ _ => 26
  | .movBToPreDec _ _ => 27
  | .movWToPreDec _ _ => 28
  | .movLToPreDec _ _ => 29
  | .movBAbs8 _ _ => 30
  | .movBAbs16 _ _ => 31
  | .movBAbs24 _ _ => 32
  | .movWAbs16 _ _ => 33
  | .movWAbs24 _ _ => 34
  | .movLAbs16 _ _ => 35
  | .movLAbs24 _ _ => 36
  | .movBToAbs8 _ _ => 37
  | .movBToAbs16 _ _ => 38
  | .movBToAbs24 _ _ => 39
  | .movWToAbs16 _ _ => 40
  | .movWToAbs24 _ _ => 41
  | .movLToAbs16 _ _ => 42
  | .movLToAbs24 _ _ => 43
  | .eepmovB => 44
  | .eepmovW => 45
  | .movfpe _ _ => 46
  | .movtpe _ _ => 47
  | .addBImm _ _ => 48
  | .addBReg _ _ => 49
  | .addWImm _ _ => 50
  | .addWReg _ _ => 51
  | .addLImm _ _ => 52
  | .addLReg _ _ => 53
  | .addxImm _ _ => 54
  | .addxReg _ _ => 55
  | .adds1 _ => 56
  | .adds2 _ => 57
  | .adds4 _ => 58
  | .incB _ => 59
  | .incW1 _ => 60
  | .incW2 _ => 61
  | .incL1 _ => 62
  | .incL2 _ => 63
  | .daa _ => 64
  | .subBReg _ _ => 65
  | .subWImm _ _ => 66
  | .subWReg _ _ => 67
  | .subLImm _ _ => 68
  | .subLReg _ _ => 69
  | .subxImm _ _ => 70
  | .subxReg _ _ => 71
  | .subs1 _ => 72
  | .subs2 _ => 73
  | .subs4 _ => 74
  | .decB _ => 75
  | .decW1 _ => 76
  | .decW2 _ => 77
  | .decL1 _ => 78
  | .decL2 _ => 79
  | .das _ => 80
  | .negB _ => 81
  | .negW _ => 82
  | .negL _ => 83
  | .cmpBImm _ _ => 84
  | .cmpBReg _ _ => 85
  | .cmpWImm _ _ => 86
  | .cmpWReg _ _ => 87
  | .cmpLImm _ _ => 88
  | .cmpLReg _ _ => 89
  | .mulxuB _ _ => 90
  | .mulxuW _ _ => 91
  | .mulxsB _ _ => 92
  | .mulxsW _ _ => 93
  | .divxuB _ _ => 94
  | .divxuW _ _ => 95
  | .divxsB _ _ => 96
  | .divxsW _ _ => 97
  | .extuW _ => 98
  | .extuL _ => 99
  | .extsW _ => 100
  | .extsL _ => 101
  | .andBImm _ _ => 102
  | .andBReg _ _ => 103
  | .andWImm _ _ => 104
  | .andWReg _ _ => 105
  | .andLImm _ _ => 106
  | .andLReg _ _ => 107
  | .orBImm _ _ => 108
  | .orBReg _ _ => 109
  | .orWImm _ _ => 110
  | .orWReg _ _ => 111
  | .orLImm _ _ => 112
  | .orLReg _ _ => 113
  | .xorBImm _ _ => 114
  | .xorBReg _ _ => 115
  | .xorWImm _ _ => 116
  | .xorWReg _ _ => 117
  | .xorLImm _ _ => 118
  | .xorLReg _ _ => 119
  | .notB _ => 120
  | .notW _ => 121
  | .notL _ => 122
  | .shalB _ => 123
  | .shalW _ => 124
  | .shalL _ => 125
  | .sharB _ => 126
  | .sharW _ => 127
  | .sharL _ => 128
  | .shllB _ => 129
  | .shllW _ => 130
  | .shllL _ => 131
  | .shlrB _ => 132
  | .shlrW _ => 133
  | .shlrL _ => 134
  | .rotlB _ => 135
  | .rotlW _ => 136
  | .rotlL _ => 137
  | .rotrB _ => 138
  | .rotrW _ => 139
  | .rotrL _ => 140
  | .rotxlB _ => 141
  | .rotxlW _ => 142
  | .rotxlL _ => 143
  | .rotxrB _ => 144
  | .rotxrW _ => 145
  | .rotxrL _ => 146
  | .bsetImmReg _ _ => 147
  | .bsetRegReg _ _ => 148
  | .bsetImmInd _ _ => 149
  | .bsetRegInd _ _ => 150
  | .bsetImmAbs8 _ _ => 151
  | .bsetRegAbs8 _ _ => 152
  | .bnotImmReg _ _ => 153
  | .bnotRegReg _ _ => 154
  | .bnotImmInd _ _ => 155
  | .bnotRegInd _ _ => 156
  | .bnotImmAbs8 _ _ => 157
  | .bnotRegAbs8 _ _ => 158
  | .bclrImmReg _ _ => 159
  | .bclrRegReg _ _ => 160
  | .bclrImmInd _ _ => 161
  | .bclrRegInd _ _ => 162
  | .bclrImmAbs8 _ _ => 163
  | .bclrRegAbs8 _ _ => 164
  | .btstImmReg _ _ => 165
  | .btstRegReg _ _ => 166
  | .btstImmInd _ _ => 167
  | .btstRegInd _ _ => 168
  | .btstImmAbs8 _ _ => 169
  | .btstRegAbs8 _ _ => 170
  | .bldReg _ _ => 171
  | .bldInd _ _ => 172
  | .bldAbs8 _ _ => 173
  | .bildReg _ _ => 174
  | .bildInd _ _ => 175
  | .bildAbs8 _ _ => 176
  | .bstReg _ _ => 177
  | .bstInd _ _ => 178
  | .bstAbs8 _ _ => 179
  | .bistReg _ _ => 180
  | .bistInd _ _ => 181
  | .bistAbs8 _ _ => 182
  | .bandReg _ _ => 183
  | .bandInd _ _ => 184
  | .bandAbs8 _ _ => 185
  | .biandReg _ _ => 186
  | .biandInd _ _ => 187
  | .biandAbs8 _ _ => 188
  | .borReg _ _ => 189
  | .borInd _ _ => 190
  | .borAbs8 _ _ => 191
  | .biorReg _ _ => 192
  | .biorInd _ _ => 193
  | .biorAbs8 _ _ => 194
  | .bxorReg _ _ => 195
  | .bxorInd _ _ => 196
  | .bxorAbs8 _ _ => 197
  | .bixorReg _ _ => 198
  | .bixorInd _ _ => 199
  | .bixorAbs8 _ _ => 200
  | .bra (.d8 _) => 201
  | .bra (.d16 _) => 217
  | .brn (.d8 _) => 202
  | .brn (.d16 _) => 218
  | .bhi (.d8 _) => 203
  | .bhi (.d16 _) => 219
  | .bls (.d8 _) => 204
  | .bls (.d16 _) => 220
  | .bcc (.d8 _) => 205
  | .bcc (.d16 _) => 221
  | .bcs (.d8 _) => 206
  | .bcs (.d16 _) => 222
  | .bne (.d8 _) => 207
  | .bne (.d16 _) => 223
  | .beq (.d8 _) => 208
  | .beq (.d16 _) => 224
  | .bvc (.d8 _) => 209
  | .bvc (.d16 _) => 225
  | .bvs (.d8 _) => 210
  | .bvs (.d16 _) => 226
  | .bpl (.d8 _) => 211
  | .bpl (.d16 _) => 227
  | .bmi (.d8 _) => 212
  | .bmi (.d16 _) => 228
  | .bge (.d8 _) => 213
  | .bge (.d16 _) => 229
  | .blt (.d8 _) => 214
  | .blt (.d16 _) => 230
  | .bgt (.d8 _) => 215
  | .bgt (.d16 _) => 231
  | .ble (.d8 _) => 216
  | .ble (.d16 _) => 232
  | .jmpInd _ => 233
  | .jmpAbs24 _ => 234
  | .jmpMemInd _ => 235
  | .bsr (.d8 _) => 236
  | .bsr (.d16 _) => 237
  | .jsrInd _ => 238
  | .jsrAbs24 _ => 239
  | .jsrMemInd _ => 240
  | .rts => 241
  | .ldcBImm _ => 242
  | .ldcBReg _ => 243
  | .ldcWInd _ => 244
  | .ldcWDisp16 _ _ => 245
  | .ldcWDisp24 _ _ => 246
  | .ldcWPostInc _ => 247
  | .ldcWAbs16 _ => 248
  | .ldcWAbs24 _ => 249
  | .stcBReg _ => 250
  | .stcWToInd _ => 251
  | .stcWToDisp16 _ _ => 252
  | .stcWToDisp24 _ _ => 253
  | .stcWToPreDec _ => 254
  | .stcWToAbs16 _ => 255
  | .stcWToAbs24 _ => 256
  | .andc _ => 257
  | .orc _ => 258
  | .xorc _ => 259
  | .trapa _ => 263
  | .nop => 260
  | .sleep => 261
  | .rte => 262

/-! ### Decoding bytes -/

/-- The instruction at the head of `bs`, or why there is none (`30_encoding.md` rules R321 and R330). -/
def decode (bs : List Byte) : Except DecodeReject Instr :=
  let at' := fun k => bs.getD k 0#8
  match decodeRow (at' 0) (at' 1) (at' 2) (at' 3) (at' 4) (at' 5) (at' 6) (at' 7) (at' 8) (at' 9) with
  | none => .error (.noRow (decodeKeys (at' 0) (at' 1) (at' 2)))
  | some i => if i.length ≤ bs.length then .ok i else .error .truncated

/-- The bytes of an instruction whose bits are `w`, `nbits` of them, followed by zero bytes up to ten. DEDUCED (log 28):
the table numbers an instruction's bits as one number whose bit 0 is the least significant bit of its last byte
(`30_encoding.md` rule R304), so the first byte is the topmost one of `w`. -/
def tableBytes (nbits w : Nat) : List Byte :=
  (List.range 10).map fun k =>
    if 8 * (k + 1) ≤ nbits then BitVec.ofNat 8 (w / 2 ^ (nbits - 8 * (k + 1))) else 0#8

/-- The instruction that the decoder reads from an instruction whose bits are `w`. -/
def decodeTableWord (nbits w : Nat) : Option Instr :=
  match decode (tableBytes nbits w) with
  | .ok i => some i
  | .error _ => none

end Sys2Proof
end

