-- ==== Sys2Proof/Machine/DataTransfer.lean ====
section
/-! DEFINITION. The data-transfer instructions (`40_data_transfer.md`). -/

namespace Sys2Proof.Machine

/-- A value moved to a register, with its flags (rules R412-R414). -/
def moveTo {n : Nat} (v : View n) (rd : BitVec 4) (val : BitVec n) (s : State) : State :=
  (v.set s rd val).setFlags (movFlags val)

/-- A load (rules R412-R414). -/
def moveLoad {n : Nat} (v : View n) (a : Addr) (rd : BitVec 4) (s : State) : State :=
  let r := v.load s a
  moveTo v rd r.1 r.2

/-- A store (rules R412-R414). -/
def moveStore {n : Nat} (v : View n) (rs : BitVec 4) (a : Addr) (s : State) : State :=
  let val := v.get s rs
  (v.store s a val).setFlags (movFlags val)

/-- `@ERs+,Rd` (rules R405, R411). Where Rd is part of ERs, a drawn Bool says which write comes last: true, the loaded
value. -/
def moveLoadInc {n : Nat} (v : View n) (rs rd : BitVec 4) (s : State) : State :=
  let r := v.load s (eaInd s rs)
  let next := r.2.x (selIndex rs) + v.bytes
  if selIndex rs = selIndex rd then
    let o := r.2.drawBool
    if o.1 then moveTo v rd r.1 (o.2.setX (selIndex rs) next)
    else (moveTo v rd r.1 o.2).setX (selIndex rs) next
  else moveTo v rd r.1 (r.2.setX (selIndex rs) next)

/-- `Rs,@-ERd` (rules R406, R411). Where Rs is part of ERd, a drawn Bool says which value is stored: true, the value
before the decrement. -/
def moveStoreDec {n : Nat} (v : View n) (rs rd : BitVec 4) (s : State) : State :=
  let a := eaPreDec s v.bytes rd
  let dec := s.x (selIndex rd) - v.bytes
  if selIndex rs = selIndex rd then
    let o := s.drawBool
    let s₁ := o.2.setX (selIndex rd) dec
    let val := if o.1 then v.get s rs else v.get s₁ rs
    (v.store s₁ a val).setFlags (movFlags val)
  else
    let val := v.get s rs
    (v.store (s.setX (selIndex rd) dec) a val).setFlags (movFlags val)

/-- The end of a self-sizing form: the executor moves pc itself (rule R419). -/
def advance (length : Addr) (s : State) : State := s.setPc (s.pc + length)

/-- One byte of a block move (rule R416): ER5 to ER6, and the counter `r` down by one. -/
def blockMoveByte {n : Nat} (v : View n) (r : BitVec 4) (s : State) : State :=
  let b := s.load8 (eaInd s 5)
  let s₁ := b.2.store8 (eaInd b.2 6) b.1
  let s₂ := s₁.setX 5 (s₁.x 5 + 1)
  let s₃ := s₂.setX 6 (s₂.x 6 + 1)
  v.set s₃ r (v.get s₃ r - 1)

/-- `k` bytes of a block move. -/
def blockMoveLoop {n : Nat} (v : View n) (r : BitVec 4) : Nat → State → State
  | 0, s => s
  | k + 1, s => blockMoveLoop v r k (blockMoveByte v r s)

/-- The whole block within one step (rules R416, R417). The loop runs while the counter is not 0; each byte takes one
from it and nothing else changes it, so it runs as many times as the counter says at the start. -/
def blockMove {n : Nat} (v : View n) (r : BitVec 4) (s : State) : State := blockMoveLoop v r (v.get s r).toNat s

/-- The dispatch keys of an instruction's own bytes (`30_encoding.md` rule R322; log 16). -/
def keysOf (i : Instr) : DecodeKeys :=
  let bs := encode i
  decodeKeys (bs.getD 0 0) (bs.getD 1 0) (bs.getD 2 0)

/-- A non-admitted row raises DecodeError (`30_encoding.md` rule R331; log 17). -/
def notAdmitted (i : Instr) (s : State) : State := s.raise .decodeError (some (keysOf i))

/-! ### The instructions -/

/-- MOV.B Rs,Rd: rule R412. -/
def execMovBReg (rs : Sel) (rd : Sel) (s : State) : Host.Outcome State Fault Refusal :=
  .next (moveTo vB rd (vB.get s rs) s)

/-- MOV.W Rs,Rd: rule R413. -/
def execMovWReg (rs : Sel) (rd : Sel) (s : State) : Host.Outcome State Fault Refusal :=
  .next (moveTo vW rd (vW.get s rs) s)

/-- MOV.L ERs,ERd: rule R414. -/
def execMovLReg (rs : ErSel) (rd : ErSel) (s : State) : Host.Outcome State Fault Refusal :=
  .next (moveTo vL rd (vL.get s rs) s)

/-- MOV.B #xx:8,Rd: rule R412. -/
def execMovBImm (imm : BitVec 8) (rd : Sel) (s : State) : Host.Outcome State Fault Refusal :=
  .next (moveTo vB rd imm s)

/-- MOV.W #xx:16,Rd: rule R413. -/
def execMovWImm (imm : BitVec 16) (rd : Sel) (s : State) : Host.Outcome State Fault Refusal :=
  .next (moveTo vW rd imm s)

/-- MOV.L #xx:32,ERd: rule R414. -/
def execMovLImm (imm : BitVec 32) (rd : ErSel) (s : State) : Host.Outcome State Fault Refusal :=
  .next (moveTo vL rd imm s)

/-- MOV.B @ERs,Rd: rule R412. -/
def execMovBInd (rs : ErSel) (rd : Sel) (s : State) : Host.Outcome State Fault Refusal :=
  .next (moveLoad vB (eaInd s rs) rd s)

/-- MOV.W @ERs,Rd: rule R413. -/
def execMovWInd (rs : ErSel) (rd : Sel) (s : State) : Host.Outcome State Fault Refusal :=
  .next (moveLoad vW (eaInd s rs) rd s)

/-- MOV.L @ERs,ERd: rule R414. -/
def execMovLInd (rs : ErSel) (rd : ErSel) (s : State) : Host.Outcome State Fault Refusal :=
  .next (moveLoad vL (eaInd s rs) rd s)

/-- MOV.B Rs,@ERd: rule R412. -/
def execMovBToInd (rs : Sel) (rd : ErSel) (s : State) : Host.Outcome State Fault Refusal :=
  .next (moveStore vB rs (eaInd s rd) s)

/-- MOV.W Rs,@ERd: rule R413. -/
def execMovWToInd (rs : Sel) (rd : ErSel) (s : State) : Host.Outcome State Fault Refusal :=
  .next (moveStore vW rs (eaInd s rd) s)

/-- MOV.L ERs,@ERd: rule R414. -/
def execMovLToInd (rs : ErSel) (rd : ErSel) (s : State) : Host.Outcome State Fault Refusal :=
  .next (moveStore vL rs (eaInd s rd) s)

/-- MOV.B @(d:16,ERs),Rd: rule R412. -/
def execMovBDisp16 (disp : BitVec 16) (rs : ErSel) (rd : Sel) (s : State) : Host.Outcome State Fault Refusal :=
  .next (moveLoad vB (eaDisp16 s disp rs) rd s)

/-- MOV.W @(d:16,ERs),Rd: rule R413. -/
def execMovWDisp16 (disp : BitVec 16) (rs : ErSel) (rd : Sel) (s : State) : Host.Outcome State Fault Refusal :=
  .next (moveLoad vW (eaDisp16 s disp rs) rd s)

/-- MOV.L @(d:16,ERs),ERd: rule R414. -/
def execMovLDisp16 (disp : BitVec 16) (rs : ErSel) (rd : ErSel) (s : State) : Host.Outcome State Fault Refusal :=
  .next (moveLoad vL (eaDisp16 s disp rs) rd s)

/-- MOV.B Rs,@(d:16,ERd): rule R412. -/
def execMovBToDisp16 (rs : Sel) (disp : BitVec 16) (rd : ErSel) (s : State) : Host.Outcome State Fault Refusal :=
  .next (moveStore vB rs (eaDisp16 s disp rd) s)

/-- MOV.W Rs,@(d:16,ERd): rule R413. -/
def execMovWToDisp16 (rs : Sel) (disp : BitVec 16) (rd : ErSel) (s : State) : Host.Outcome State Fault Refusal :=
  .next (moveStore vW rs (eaDisp16 s disp rd) s)

/-- MOV.L ERs,@(d:16,ERd): rule R414. -/
def execMovLToDisp16 (rs : ErSel) (disp : BitVec 16) (rd : ErSel) (s : State) : Host.Outcome State Fault Refusal :=
  .next (moveStore vL rs (eaDisp16 s disp rd) s)

/-- MOV.B @(d:24,ERs),Rd: rule R412. -/
def execMovBDisp24 (disp : BitVec 24) (rs : ErSel) (rd : Sel) (s : State) : Host.Outcome State Fault Refusal :=
  .next (moveLoad vB (eaDisp24 s disp rs) rd s)

/-- MOV.W @(d:24,ERs),Rd: rule R413. -/
def execMovWDisp24 (disp : BitVec 24) (rs : ErSel) (rd : Sel) (s : State) : Host.Outcome State Fault Refusal :=
  .next (moveLoad vW (eaDisp24 s disp rs) rd s)

/-- MOV.L @(d:24,ERs),ERd: rule R414. -/
def execMovLDisp24 (disp : BitVec 24) (rs : ErSel) (rd : ErSel) (s : State) : Host.Outcome State Fault Refusal :=
  .next (moveLoad vL (eaDisp24 s disp rs) rd s)

/-- MOV.B Rs,@(d:24,ERd): rule R412. -/
def execMovBToDisp24 (rs : Sel) (disp : BitVec 24) (rd : ErSel) (s : State) : Host.Outcome State Fault Refusal :=
  .next (moveStore vB rs (eaDisp24 s disp rd) s)

/-- MOV.W Rs,@(d:24,ERd): rule R413. -/
def execMovWToDisp24 (rs : Sel) (disp : BitVec 24) (rd : ErSel) (s : State) : Host.Outcome State Fault Refusal :=
  .next (moveStore vW rs (eaDisp24 s disp rd) s)

/-- MOV.L ERs,@(d:24,ERd): rule R414. -/
def execMovLToDisp24 (rs : ErSel) (disp : BitVec 24) (rd : ErSel) (s : State) : Host.Outcome State Fault Refusal :=
  .next (moveStore vL rs (eaDisp24 s disp rd) s)

/-- MOV.B @ERs+,Rd: rule R412. -/
def execMovBPostInc (rs : ErSel) (rd : Sel) (s : State) : Host.Outcome State Fault Refusal :=
  .next (moveLoadInc vB rs rd s)

/-- MOV.W @ERs+,Rd: rule R413. -/
def execMovWPostInc (rs : ErSel) (rd : Sel) (s : State) : Host.Outcome State Fault Refusal :=
  .next (moveLoadInc vW rs rd s)

/-- MOV.L @ERs+,ERd: rule R414. -/
def execMovLPostInc (rs : ErSel) (rd : ErSel) (s : State) : Host.Outcome State Fault Refusal :=
  .next (moveLoadInc vL rs rd s)

/-- MOV.B Rs,@-ERd: rule R412. -/
def execMovBToPreDec (rs : Sel) (rd : ErSel) (s : State) : Host.Outcome State Fault Refusal :=
  .next (moveStoreDec vB rs rd s)

/-- MOV.W Rs,@-ERd: rule R413. -/
def execMovWToPreDec (rs : Sel) (rd : ErSel) (s : State) : Host.Outcome State Fault Refusal :=
  .next (moveStoreDec vW rs rd s)

/-- MOV.L ERs,@-ERd: rule R414. -/
def execMovLToPreDec (rs : ErSel) (rd : ErSel) (s : State) : Host.Outcome State Fault Refusal :=
  .next (moveStoreDec vL rs rd s)

/-- MOV.B @aa:8,Rd: rule R412. -/
def execMovBAbs8 (abs : BitVec 8) (rd : Sel) (s : State) : Host.Outcome State Fault Refusal :=
  .next (moveLoad vB (eaAbs8 abs) rd s)

/-- MOV.B @aa:16,Rd: rule R412. -/
def execMovBAbs16 (abs : BitVec 16) (rd : Sel) (s : State) : Host.Outcome State Fault Refusal :=
  .next (advance 4 (moveLoad vB (eaAbs16 abs) rd s))

/-- MOV.B @aa:24,Rd: rule R412. -/
def execMovBAbs24 (abs : BitVec 24) (rd : Sel) (s : State) : Host.Outcome State Fault Refusal :=
  .next (advance 6 (moveLoad vB (eaAbs24 abs) rd s))

/-- MOV.W @aa:16,Rd: rule R413. -/
def execMovWAbs16 (abs : BitVec 16) (rd : Sel) (s : State) : Host.Outcome State Fault Refusal :=
  .next (advance 4 (moveLoad vW (eaAbs16 abs) rd s))

/-- MOV.W @aa:24,Rd: rule R413. -/
def execMovWAbs24 (abs : BitVec 24) (rd : Sel) (s : State) : Host.Outcome State Fault Refusal :=
  .next (advance 6 (moveLoad vW (eaAbs24 abs) rd s))

/-- MOV.L @aa:16,ERd: rule R414. -/
def execMovLAbs16 (abs : BitVec 16) (rd : ErSel) (s : State) : Host.Outcome State Fault Refusal :=
  .next (moveLoad vL (eaAbs16 abs) rd s)

/-- MOV.L @aa:24,ERd: rule R414. -/
def execMovLAbs24 (abs : BitVec 24) (rd : ErSel) (s : State) : Host.Outcome State Fault Refusal :=
  .next (moveLoad vL (eaAbs24 abs) rd s)

/-- MOV.B Rs,@aa:8: rule R412. -/
def execMovBToAbs8 (rs : Sel) (abs : BitVec 8) (s : State) : Host.Outcome State Fault Refusal :=
  .next (moveStore vB rs (eaAbs8 abs) s)

/-- MOV.B Rs,@aa:16: rule R412. -/
def execMovBToAbs16 (rs : Sel) (abs : BitVec 16) (s : State) : Host.Outcome State Fault Refusal :=
  .next (advance 4 (moveStore vB rs (eaAbs16 abs) s))

/-- MOV.B Rs,@aa:24: rule R412. -/
def execMovBToAbs24 (rs : Sel) (abs : BitVec 24) (s : State) : Host.Outcome State Fault Refusal :=
  .next (advance 6 (moveStore vB rs (eaAbs24 abs) s))

/-- MOV.W Rs,@aa:16: rule R413. -/
def execMovWToAbs16 (rs : Sel) (abs : BitVec 16) (s : State) : Host.Outcome State Fault Refusal :=
  .next (advance 4 (moveStore vW rs (eaAbs16 abs) s))

/-- MOV.W Rs,@aa:24: rule R413. -/
def execMovWToAbs24 (rs : Sel) (abs : BitVec 24) (s : State) : Host.Outcome State Fault Refusal :=
  .next (advance 6 (moveStore vW rs (eaAbs24 abs) s))

/-- MOV.L ERs,@aa:16: rule R414. -/
def execMovLToAbs16 (rs : ErSel) (abs : BitVec 16) (s : State) : Host.Outcome State Fault Refusal :=
  .next (moveStore vL rs (eaAbs16 abs) s)

/-- MOV.L ERs,@aa:24: rule R414. -/
def execMovLToAbs24 (rs : ErSel) (abs : BitVec 24) (s : State) : Host.Outcome State Fault Refusal :=
  .next (moveStore vL rs (eaAbs24 abs) s)

/-- EEPMOV.B: rule R416. -/
def execEepmovB (s : State) : Host.Outcome State Fault Refusal := .next (blockMove vB 0xC s)

/-- EEPMOV.W: rule R417. -/
def execEepmovW (s : State) : Host.Outcome State Fault Refusal := .next (blockMove vW 4 s)

/-- MOVFPE @aa:16,Rd: rule R418. -/
def execMovfpe (abs : BitVec 16) (rd : Sel) (s : State) : Host.Outcome State Fault Refusal :=
  .next (notAdmitted (.movfpe abs rd) s)

/-- MOVTPE Rs,@aa:16: rule R418. -/
def execMovtpe (rs : Sel) (abs : BitVec 16) (s : State) : Host.Outcome State Fault Refusal :=
  .next (notAdmitted (.movtpe rs abs) s)

end Sys2Proof.Machine
end

