-- ==== Sys2Proof/Machine/Logic.lean ====
section
/-! DEFINITION. The logic instructions (`42_logic.md`). -/

namespace Sys2Proof.Machine

/-- AND, OR and XOR, by their operation on bits (rules R600-R609). -/
def logicTo {n : Nat} (v : View n) (rd : BitVec 4) (op : BitVec n → BitVec n → BitVec n) (b : BitVec n) (s : State) :
    State :=
  let r := op (v.get s rd) b
  (v.set s rd r).setFlags (movFlags r)

/-- NOT (rules R610-R612). -/
def complement {n : Nat} (v : View n) (rd : BitVec 4) (s : State) : State :=
  let r := ~~~(v.get s rd)
  (v.set s rd r).setFlags (movFlags r)

/-! ### The instructions -/

/-- AND.B #xx:8,Rd: rule R601. -/
def execAndBImm (imm : BitVec 8) (rd : Sel) (s : State) : Host.Outcome State Fault Refusal :=
  .next (logicTo vB rd (· &&& ·) imm s)

/-- AND.B Rs,Rd: rule R601. -/
def execAndBReg (rs : Sel) (rd : Sel) (s : State) : Host.Outcome State Fault Refusal :=
  .next (logicTo vB rd (· &&& ·) (vB.get s rs) s)

/-- AND.W #xx:16,Rd: rule R602. -/
def execAndWImm (imm : BitVec 16) (rd : Sel) (s : State) : Host.Outcome State Fault Refusal :=
  .next (logicTo vW rd (· &&& ·) imm s)

/-- AND.W Rs,Rd: rule R602. -/
def execAndWReg (rs : Sel) (rd : Sel) (s : State) : Host.Outcome State Fault Refusal :=
  .next (logicTo vW rd (· &&& ·) (vW.get s rs) s)

/-- AND.L #xx:32,ERd: rule R603. -/
def execAndLImm (imm : BitVec 32) (rd : ErSel) (s : State) : Host.Outcome State Fault Refusal :=
  .next (logicTo vL rd (· &&& ·) imm s)

/-- AND.L ERs,ERd: rule R603. -/
def execAndLReg (rs : ErSel) (rd : ErSel) (s : State) : Host.Outcome State Fault Refusal :=
  .next (logicTo vL rd (· &&& ·) (vL.get s rs) s)

/-- OR.B #xx:8,Rd: rule R604. -/
def execOrBImm (imm : BitVec 8) (rd : Sel) (s : State) : Host.Outcome State Fault Refusal :=
  .next (logicTo vB rd (· ||| ·) imm s)

/-- OR.B Rs,Rd: rule R604. -/
def execOrBReg (rs : Sel) (rd : Sel) (s : State) : Host.Outcome State Fault Refusal :=
  .next (logicTo vB rd (· ||| ·) (vB.get s rs) s)

/-- OR.W #xx:16,Rd: rule R605. -/
def execOrWImm (imm : BitVec 16) (rd : Sel) (s : State) : Host.Outcome State Fault Refusal :=
  .next (logicTo vW rd (· ||| ·) imm s)

/-- OR.W Rs,Rd: rule R605. -/
def execOrWReg (rs : Sel) (rd : Sel) (s : State) : Host.Outcome State Fault Refusal :=
  .next (logicTo vW rd (· ||| ·) (vW.get s rs) s)

/-- OR.L #xx:32,ERd: rule R606. -/
def execOrLImm (imm : BitVec 32) (rd : ErSel) (s : State) : Host.Outcome State Fault Refusal :=
  .next (logicTo vL rd (· ||| ·) imm s)

/-- OR.L ERs,ERd: rule R606. -/
def execOrLReg (rs : ErSel) (rd : ErSel) (s : State) : Host.Outcome State Fault Refusal :=
  .next (logicTo vL rd (· ||| ·) (vL.get s rs) s)

/-- XOR.B #xx:8,Rd: rule R607. -/
def execXorBImm (imm : BitVec 8) (rd : Sel) (s : State) : Host.Outcome State Fault Refusal :=
  .next (logicTo vB rd (· ^^^ ·) imm s)

/-- XOR.B Rs,Rd: rule R607. -/
def execXorBReg (rs : Sel) (rd : Sel) (s : State) : Host.Outcome State Fault Refusal :=
  .next (logicTo vB rd (· ^^^ ·) (vB.get s rs) s)

/-- XOR.W #xx:16,Rd: rule R608. -/
def execXorWImm (imm : BitVec 16) (rd : Sel) (s : State) : Host.Outcome State Fault Refusal :=
  .next (logicTo vW rd (· ^^^ ·) imm s)

/-- XOR.W Rs,Rd: rule R608. -/
def execXorWReg (rs : Sel) (rd : Sel) (s : State) : Host.Outcome State Fault Refusal :=
  .next (logicTo vW rd (· ^^^ ·) (vW.get s rs) s)

/-- XOR.L #xx:32,ERd: rule R609. -/
def execXorLImm (imm : BitVec 32) (rd : ErSel) (s : State) : Host.Outcome State Fault Refusal :=
  .next (logicTo vL rd (· ^^^ ·) imm s)

/-- XOR.L ERs,ERd: rule R609. -/
def execXorLReg (rs : ErSel) (rd : ErSel) (s : State) : Host.Outcome State Fault Refusal :=
  .next (logicTo vL rd (· ^^^ ·) (vL.get s rs) s)

/-- NOT.B Rd: rule R610. -/
def execNotB (rd : Sel) (s : State) : Host.Outcome State Fault Refusal := .next (complement vB rd s)

/-- NOT.W Rd: rule R611. -/
def execNotW (rd : Sel) (s : State) : Host.Outcome State Fault Refusal := .next (complement vW rd s)

/-- NOT.L ERd: rule R612. -/
def execNotL (rd : ErSel) (s : State) : Host.Outcome State Fault Refusal := .next (complement vL rd s)

end Sys2Proof.Machine
end

