-- ==== Sys2Proof/Machine/Shift.lean ====
section
/-! DEFINITION. The shifts and rotates, by one bit (`43_shift.md`). -/

namespace Sys2Proof.Machine

/-- The eight ways to move a register by one bit. -/
inductive ShiftOp where
  | shal
  | shar
  | shll
  | shlr
  | rotl
  | rotr
  | rotxl
  | rotxr
deriving DecidableEq, Repr

/-- The result (rules R701-R724). `c` is the incoming C. -/
def shiftResult {n : Nat} (op : ShiftOp) (v : BitVec n) (c : Bool) : BitVec n :=
  let top (b : Bool) : BitVec n := (BitVec.ofBool b).setWidth n <<< (n - 1)
  let low (b : Bool) : BitVec n := (BitVec.ofBool b).setWidth n
  match op with
  | .shal => v <<< 1
  | .shar => v >>> 1 ||| top v.msb
  | .shll => v <<< 1
  | .shlr => v >>> 1
  | .rotl => v <<< 1 ||| low v.msb
  | .rotr => v >>> 1 ||| top (v.getLsbD 0)
  | .rotxl => v <<< 1 ||| low c
  | .rotxr => v >>> 1 ||| top c

/-- The bit shifted out, which C receives (rule R700). -/
def shiftOut {n : Nat} (op : ShiftOp) (v : BitVec n) : Bool :=
  match op with
  | .shal | .shll | .rotl | .rotxl => v.msb
  | .shar | .shlr | .rotr | .rotxr => v.getLsbD 0

/-- V: set by SHAL when the sign changes, cleared by the others (rules R700, R701). -/
def shiftOverflow {n : Nat} (op : ShiftOp) (v : BitVec n) : Bool :=
  match op with
  | .shal => v.msb ^^ v.getLsbD (n - 2)
  | .shar | .shll | .shlr | .rotl | .rotr | .rotxl | .rotxr => false

/-- A shift or rotate of a register (rules R700-R724). -/
def shiftBy {n : Nat} (v : View n) (op : ShiftOp) (rd : BitVec 4) (s : State) : State :=
  let a := v.get s rd
  let r := shiftResult op a s.ccr.c
  (v.set s rd r).setFlags (shiftFlags r (shiftOut op a) (shiftOverflow op a))

/-! ### The instructions -/

/-- SHAL.B Rd: rule R701. -/
def execShalB (rd : Sel) (s : State) : Host.Outcome State Fault Refusal := .next (shiftBy vB .shal rd s)

/-- SHAL.W Rd: rule R702. -/
def execShalW (rd : Sel) (s : State) : Host.Outcome State Fault Refusal := .next (shiftBy vW .shal rd s)

/-- SHAL.L ERd: rule R703. -/
def execShalL (rd : ErSel) (s : State) : Host.Outcome State Fault Refusal := .next (shiftBy vL .shal rd s)

/-- SHAR.B Rd: rule R704. -/
def execSharB (rd : Sel) (s : State) : Host.Outcome State Fault Refusal := .next (shiftBy vB .shar rd s)

/-- SHAR.W Rd: rule R705. -/
def execSharW (rd : Sel) (s : State) : Host.Outcome State Fault Refusal := .next (shiftBy vW .shar rd s)

/-- SHAR.L ERd: rule R706. -/
def execSharL (rd : ErSel) (s : State) : Host.Outcome State Fault Refusal := .next (shiftBy vL .shar rd s)

/-- SHLL.B Rd: rule R707. -/
def execShllB (rd : Sel) (s : State) : Host.Outcome State Fault Refusal := .next (shiftBy vB .shll rd s)

/-- SHLL.W Rd: rule R708. -/
def execShllW (rd : Sel) (s : State) : Host.Outcome State Fault Refusal := .next (shiftBy vW .shll rd s)

/-- SHLL.L ERd: rule R709. -/
def execShllL (rd : ErSel) (s : State) : Host.Outcome State Fault Refusal := .next (shiftBy vL .shll rd s)

/-- SHLR.B Rd: rule R710. -/
def execShlrB (rd : Sel) (s : State) : Host.Outcome State Fault Refusal := .next (shiftBy vB .shlr rd s)

/-- SHLR.W Rd: rule R711. -/
def execShlrW (rd : Sel) (s : State) : Host.Outcome State Fault Refusal := .next (shiftBy vW .shlr rd s)

/-- SHLR.L ERd: rule R712. -/
def execShlrL (rd : ErSel) (s : State) : Host.Outcome State Fault Refusal := .next (shiftBy vL .shlr rd s)

/-- ROTL.B Rd: rule R713. -/
def execRotlB (rd : Sel) (s : State) : Host.Outcome State Fault Refusal := .next (shiftBy vB .rotl rd s)

/-- ROTL.W Rd: rule R714. -/
def execRotlW (rd : Sel) (s : State) : Host.Outcome State Fault Refusal := .next (shiftBy vW .rotl rd s)

/-- ROTL.L ERd: rule R715. -/
def execRotlL (rd : ErSel) (s : State) : Host.Outcome State Fault Refusal := .next (shiftBy vL .rotl rd s)

/-- ROTR.B Rd: rule R716. -/
def execRotrB (rd : Sel) (s : State) : Host.Outcome State Fault Refusal := .next (shiftBy vB .rotr rd s)

/-- ROTR.W Rd: rule R717. -/
def execRotrW (rd : Sel) (s : State) : Host.Outcome State Fault Refusal := .next (shiftBy vW .rotr rd s)

/-- ROTR.L ERd: rule R718. -/
def execRotrL (rd : ErSel) (s : State) : Host.Outcome State Fault Refusal := .next (shiftBy vL .rotr rd s)

/-- ROTXL.B Rd: rule R719. -/
def execRotxlB (rd : Sel) (s : State) : Host.Outcome State Fault Refusal := .next (shiftBy vB .rotxl rd s)

/-- ROTXL.W Rd: rule R720. -/
def execRotxlW (rd : Sel) (s : State) : Host.Outcome State Fault Refusal := .next (shiftBy vW .rotxl rd s)

/-- ROTXL.L ERd: rule R721. -/
def execRotxlL (rd : ErSel) (s : State) : Host.Outcome State Fault Refusal := .next (shiftBy vL .rotxl rd s)

/-- ROTXR.B Rd: rule R722. -/
def execRotxrB (rd : Sel) (s : State) : Host.Outcome State Fault Refusal := .next (shiftBy vB .rotxr rd s)

/-- ROTXR.W Rd: rule R723. -/
def execRotxrW (rd : Sel) (s : State) : Host.Outcome State Fault Refusal := .next (shiftBy vW .rotxr rd s)

/-- ROTXR.L ERd: rule R724. -/
def execRotxrL (rd : ErSel) (s : State) : Host.Outcome State Fault Refusal := .next (shiftBy vL .rotxr rd s)

end Sys2Proof.Machine
end

