-- ==== Sys2Proof/Machine/System.lean ====
section
/-! DEFINITION. The system and control-register instructions (`46_system.md`). -/

namespace Sys2Proof.Machine

/-- LDC from memory: the upper byte of a word (rule R1000). -/
def loadCcr (a : Addr) (s : State) : State :=
  let w := s.load16 a
  w.2.setFlags (fun _ => Ccr.ofByte (w.1.extractLsb' 8 8))

/-- LDC `@ERs+,CCR` (rule R1000). -/
def loadCcrInc (rs : ErSel) (s : State) : State :=
  let w := s.load16 (eaInd s rs)
  (w.2.setX (selIndex rs) (w.2.x (selIndex rs) + 2)).setFlags (fun _ => Ccr.ofByte (w.1.extractLsb' 8 8))

/-- STC to memory: CCR in the upper byte of a word, a drawn lower byte (rule R1001; log 22). -/
def storeCcr (a : Addr) (s : State) : State :=
  let d := s.drawByte
  d.2.store16 a (s.ccr.pack ++ d.1)

/-- STC `CCR,@-ERd` (rule R1001; log 22). -/
def storeCcrDec (rd : ErSel) (s : State) : State :=
  storeCcr (eaPreDec s 2 rd) (s.setX (selIndex rd) (s.x (selIndex rd) - 2))

/-! ### The instructions -/

/-- LDC.B #xx:8,CCR: rule R1000. -/
def execLdcBImm (imm : BitVec 8) (s : State) : Host.Outcome State Fault Refusal :=
  .next (s.setFlags (fun _ => Ccr.ofByte imm))

/-- LDC.B Rs,CCR: rule R1000. -/
def execLdcBReg (rs : Sel) (s : State) : Host.Outcome State Fault Refusal :=
  .next (s.setFlags (fun _ => Ccr.ofByte (s.get8 rs)))

/-- LDC.W @ERs,CCR: rule R1000. -/
def execLdcWInd (rs : ErSel) (s : State) : Host.Outcome State Fault Refusal := .next (loadCcr (eaInd s rs) s)

/-- LDC.W @(d:16,ERs),CCR: rule R1000. -/
def execLdcWDisp16 (disp : BitVec 16) (rs : ErSel) (s : State) : Host.Outcome State Fault Refusal :=
  .next (loadCcr (eaDisp16 s disp rs) s)

/-- LDC.W @(d:24,ERs),CCR: rule R1000. -/
def execLdcWDisp24 (disp : BitVec 24) (rs : ErSel) (s : State) : Host.Outcome State Fault Refusal :=
  .next (loadCcr (eaDisp24 s disp rs) s)

/-- LDC.W @ERs+,CCR: rule R1000. -/
def execLdcWPostInc (rs : ErSel) (s : State) : Host.Outcome State Fault Refusal := .next (loadCcrInc rs s)

/-- LDC.W @aa:16,CCR: rule R1000. -/
def execLdcWAbs16 (abs : BitVec 16) (s : State) : Host.Outcome State Fault Refusal := .next (loadCcr (eaAbs16 abs) s)

/-- LDC.W @aa:24,CCR: rule R1000. -/
def execLdcWAbs24 (abs : BitVec 24) (s : State) : Host.Outcome State Fault Refusal := .next (loadCcr (eaAbs24 abs) s)

/-- STC.B CCR,Rd: rule R1001. -/
def execStcBReg (rd : Sel) (s : State) : Host.Outcome State Fault Refusal := .next (s.set8 rd s.ccr.pack)

/-- STC.W CCR,@ERd: rule R1001. -/
def execStcWToInd (rd : ErSel) (s : State) : Host.Outcome State Fault Refusal := .next (storeCcr (eaInd s rd) s)

/-- STC.W CCR,@(d:16,ERd): rule R1001. -/
def execStcWToDisp16 (disp : BitVec 16) (rd : ErSel) (s : State) : Host.Outcome State Fault Refusal :=
  .next (storeCcr (eaDisp16 s disp rd) s)

/-- STC.W CCR,@(d:24,ERd): rule R1001. -/
def execStcWToDisp24 (disp : BitVec 24) (rd : ErSel) (s : State) : Host.Outcome State Fault Refusal :=
  .next (storeCcr (eaDisp24 s disp rd) s)

/-- STC.W CCR,@-ERd: rule R1001. -/
def execStcWToPreDec (rd : ErSel) (s : State) : Host.Outcome State Fault Refusal := .next (storeCcrDec rd s)

/-- STC.W CCR,@aa:16: rule R1001. -/
def execStcWToAbs16 (abs : BitVec 16) (s : State) : Host.Outcome State Fault Refusal :=
  .next (storeCcr (eaAbs16 abs) s)

/-- STC.W CCR,@aa:24: rule R1001. -/
def execStcWToAbs24 (abs : BitVec 24) (s : State) : Host.Outcome State Fault Refusal :=
  .next (storeCcr (eaAbs24 abs) s)

/-- ANDC #xx:8,CCR: rule R1002. -/
def execAndc (imm : BitVec 8) (s : State) : Host.Outcome State Fault Refusal :=
  .next (s.setFlags (fun f => Ccr.ofByte (f.pack &&& imm)))

/-- ORC #xx:8,CCR: rule R1003. -/
def execOrc (imm : BitVec 8) (s : State) : Host.Outcome State Fault Refusal :=
  .next (s.setFlags (fun f => Ccr.ofByte (f.pack ||| imm)))

/-- XORC #xx:8,CCR: rule R1004. -/
def execXorc (imm : BitVec 8) (s : State) : Host.Outcome State Fault Refusal :=
  .next (s.setFlags (fun f => Ccr.ofByte (f.pack ^^^ imm)))

/-- TRAPA #x:2: rule R1008. -/
def execTrapa (imm : BitVec 2) (s : State) : Host.Outcome State Fault Refusal := .next (notAdmitted (.trapa imm) s)

/-- NOP: rule R1005. -/
def execNop (s : State) : Host.Outcome State Fault Refusal := .next s

/-- SLEEP: rule R1006. -/
def execSleep (s : State) : Host.Outcome State Fault Refusal := .next ({ s with sleep := true })

/-- RTE: rule R1007. -/
def execRte (s : State) : Host.Outcome State Fault Refusal := .next s.interruptReturn

end Sys2Proof.Machine
end

