-- ==== Sys2Proof/Machine/Dispatch.lean ====
section
/-! DEFINITION. One arm per instruction: each is one direct call of its meaning. -/

namespace Sys2Proof.Machine

def exec (i : Instr) (s : State) : Host.Outcome State Fault Refusal :=
  match i with
  | .movBReg rs rd => Sys2Proof.Machine.execMovBReg rs rd s
  | .movWReg rs rd => Sys2Proof.Machine.execMovWReg rs rd s
  | .movLReg rs rd => Sys2Proof.Machine.execMovLReg rs rd s
  | .movBImm imm rd => Sys2Proof.Machine.execMovBImm imm rd s
  | .movWImm imm rd => Sys2Proof.Machine.execMovWImm imm rd s
  | .movLImm imm rd => Sys2Proof.Machine.execMovLImm imm rd s
  | .movBInd rs rd => Sys2Proof.Machine.execMovBInd rs rd s
  | .movWInd rs rd => Sys2Proof.Machine.execMovWInd rs rd s
  | .movLInd rs rd => Sys2Proof.Machine.execMovLInd rs rd s
  | .movBToInd rs rd => Sys2Proof.Machine.execMovBToInd rs rd s
  | .movWToInd rs rd => Sys2Proof.Machine.execMovWToInd rs rd s
  | .movLToInd rs rd => Sys2Proof.Machine.execMovLToInd rs rd s
  | .movBDisp16 disp rs rd => Sys2Proof.Machine.execMovBDisp16 disp rs rd s
  | .movWDisp16 disp rs rd => Sys2Proof.Machine.execMovWDisp16 disp rs rd s
  | .movLDisp16 disp rs rd => Sys2Proof.Machine.execMovLDisp16 disp rs rd s
  | .movBToDisp16 rs disp rd => Sys2Proof.Machine.execMovBToDisp16 rs disp rd s
  | .movWToDisp16 rs disp rd => Sys2Proof.Machine.execMovWToDisp16 rs disp rd s
  | .movLToDisp16 rs disp rd => Sys2Proof.Machine.execMovLToDisp16 rs disp rd s
  | .movBDisp24 disp rs rd => Sys2Proof.Machine.execMovBDisp24 disp rs rd s
  | .movWDisp24 disp rs rd => Sys2Proof.Machine.execMovWDisp24 disp rs rd s
  | .movLDisp24 disp rs rd => Sys2Proof.Machine.execMovLDisp24 disp rs rd s
  | .movBToDisp24 rs disp rd => Sys2Proof.Machine.execMovBToDisp24 rs disp rd s
  | .movWToDisp24 rs disp rd => Sys2Proof.Machine.execMovWToDisp24 rs disp rd s
  | .movLToDisp24 rs disp rd => Sys2Proof.Machine.execMovLToDisp24 rs disp rd s
  | .movBPostInc rs rd => Sys2Proof.Machine.execMovBPostInc rs rd s
  | .movWPostInc rs rd => Sys2Proof.Machine.execMovWPostInc rs rd s
  | .movLPostInc rs rd => Sys2Proof.Machine.execMovLPostInc rs rd s
  | .movBToPreDec rs rd => Sys2Proof.Machine.execMovBToPreDec rs rd s
  | .movWToPreDec rs rd => Sys2Proof.Machine.execMovWToPreDec rs rd s
  | .movLToPreDec rs rd => Sys2Proof.Machine.execMovLToPreDec rs rd s
  | .movBAbs8 abs rd => Sys2Proof.Machine.execMovBAbs8 abs rd s
  | .movBAbs16 abs rd => Sys2Proof.Machine.execMovBAbs16 abs rd s
  | .movBAbs24 abs rd => Sys2Proof.Machine.execMovBAbs24 abs rd s
  | .movWAbs16 abs rd => Sys2Proof.Machine.execMovWAbs16 abs rd s
  | .movWAbs24 abs rd => Sys2Proof.Machine.execMovWAbs24 abs rd s
  | .movLAbs16 abs rd => Sys2Proof.Machine.execMovLAbs16 abs rd s
  | .movLAbs24 abs rd => Sys2Proof.Machine.execMovLAbs24 abs rd s
  | .movBToAbs8 rs abs => Sys2Proof.Machine.execMovBToAbs8 rs abs s
  | .movBToAbs16 rs abs => Sys2Proof.Machine.execMovBToAbs16 rs abs s
  | .movBToAbs24 rs abs => Sys2Proof.Machine.execMovBToAbs24 rs abs s
  | .movWToAbs16 rs abs => Sys2Proof.Machine.execMovWToAbs16 rs abs s
  | .movWToAbs24 rs abs => Sys2Proof.Machine.execMovWToAbs24 rs abs s
  | .movLToAbs16 rs abs => Sys2Proof.Machine.execMovLToAbs16 rs abs s
  | .movLToAbs24 rs abs => Sys2Proof.Machine.execMovLToAbs24 rs abs s
  | .eepmovB => Sys2Proof.Machine.execEepmovB s
  | .eepmovW => Sys2Proof.Machine.execEepmovW s
  | .movfpe abs rd => Sys2Proof.Machine.execMovfpe abs rd s
  | .movtpe rs abs => Sys2Proof.Machine.execMovtpe rs abs s
  | .addBImm imm rd => Sys2Proof.Machine.execAddBImm imm rd s
  | .addBReg rs rd => Sys2Proof.Machine.execAddBReg rs rd s
  | .addWImm imm rd => Sys2Proof.Machine.execAddWImm imm rd s
  | .addWReg rs rd => Sys2Proof.Machine.execAddWReg rs rd s
  | .addLImm imm rd => Sys2Proof.Machine.execAddLImm imm rd s
  | .addLReg rs rd => Sys2Proof.Machine.execAddLReg rs rd s
  | .addxImm imm rd => Sys2Proof.Machine.execAddxImm imm rd s
  | .addxReg rs rd => Sys2Proof.Machine.execAddxReg rs rd s
  | .adds1 rd => Sys2Proof.Machine.execAdds1 rd s
  | .adds2 rd => Sys2Proof.Machine.execAdds2 rd s
  | .adds4 rd => Sys2Proof.Machine.execAdds4 rd s
  | .incB rd => Sys2Proof.Machine.execIncB rd s
  | .incW1 rd => Sys2Proof.Machine.execIncW1 rd s
  | .incW2 rd => Sys2Proof.Machine.execIncW2 rd s
  | .incL1 rd => Sys2Proof.Machine.execIncL1 rd s
  | .incL2 rd => Sys2Proof.Machine.execIncL2 rd s
  | .daa rd => Sys2Proof.Machine.execDaa rd s
  | .subBReg rs rd => Sys2Proof.Machine.execSubBReg rs rd s
  | .subWImm imm rd => Sys2Proof.Machine.execSubWImm imm rd s
  | .subWReg rs rd => Sys2Proof.Machine.execSubWReg rs rd s
  | .subLImm imm rd => Sys2Proof.Machine.execSubLImm imm rd s
  | .subLReg rs rd => Sys2Proof.Machine.execSubLReg rs rd s
  | .subxImm imm rd => Sys2Proof.Machine.execSubxImm imm rd s
  | .subxReg rs rd => Sys2Proof.Machine.execSubxReg rs rd s
  | .subs1 rd => Sys2Proof.Machine.execSubs1 rd s
  | .subs2 rd => Sys2Proof.Machine.execSubs2 rd s
  | .subs4 rd => Sys2Proof.Machine.execSubs4 rd s
  | .decB rd => Sys2Proof.Machine.execDecB rd s
  | .decW1 rd => Sys2Proof.Machine.execDecW1 rd s
  | .decW2 rd => Sys2Proof.Machine.execDecW2 rd s
  | .decL1 rd => Sys2Proof.Machine.execDecL1 rd s
  | .decL2 rd => Sys2Proof.Machine.execDecL2 rd s
  | .das rd => Sys2Proof.Machine.execDas rd s
  | .negB rd => Sys2Proof.Machine.execNegB rd s
  | .negW rd => Sys2Proof.Machine.execNegW rd s
  | .negL rd => Sys2Proof.Machine.execNegL rd s
  | .cmpBImm imm rd => Sys2Proof.Machine.execCmpBImm imm rd s
  | .cmpBReg rs rd => Sys2Proof.Machine.execCmpBReg rs rd s
  | .cmpWImm imm rd => Sys2Proof.Machine.execCmpWImm imm rd s
  | .cmpWReg rs rd => Sys2Proof.Machine.execCmpWReg rs rd s
  | .cmpLImm imm rd => Sys2Proof.Machine.execCmpLImm imm rd s
  | .cmpLReg rs rd => Sys2Proof.Machine.execCmpLReg rs rd s
  | .mulxuB rs rd => Sys2Proof.Machine.execMulxuB rs rd s
  | .mulxuW rs rd => Sys2Proof.Machine.execMulxuW rs rd s
  | .mulxsB rs rd => Sys2Proof.Machine.execMulxsB rs rd s
  | .mulxsW rs rd => Sys2Proof.Machine.execMulxsW rs rd s
  | .divxuB rs rd => Sys2Proof.Machine.execDivxuB rs rd s
  | .divxuW rs rd => Sys2Proof.Machine.execDivxuW rs rd s
  | .divxsB rs rd => Sys2Proof.Machine.execDivxsB rs rd s
  | .divxsW rs rd => Sys2Proof.Machine.execDivxsW rs rd s
  | .extuW rd => Sys2Proof.Machine.execExtuW rd s
  | .extuL rd => Sys2Proof.Machine.execExtuL rd s
  | .extsW rd => Sys2Proof.Machine.execExtsW rd s
  | .extsL rd => Sys2Proof.Machine.execExtsL rd s
  | .andBImm imm rd => Sys2Proof.Machine.execAndBImm imm rd s
  | .andBReg rs rd => Sys2Proof.Machine.execAndBReg rs rd s
  | .andWImm imm rd => Sys2Proof.Machine.execAndWImm imm rd s
  | .andWReg rs rd => Sys2Proof.Machine.execAndWReg rs rd s
  | .andLImm imm rd => Sys2Proof.Machine.execAndLImm imm rd s
  | .andLReg rs rd => Sys2Proof.Machine.execAndLReg rs rd s
  | .orBImm imm rd => Sys2Proof.Machine.execOrBImm imm rd s
  | .orBReg rs rd => Sys2Proof.Machine.execOrBReg rs rd s
  | .orWImm imm rd => Sys2Proof.Machine.execOrWImm imm rd s
  | .orWReg rs rd => Sys2Proof.Machine.execOrWReg rs rd s
  | .orLImm imm rd => Sys2Proof.Machine.execOrLImm imm rd s
  | .orLReg rs rd => Sys2Proof.Machine.execOrLReg rs rd s
  | .xorBImm imm rd => Sys2Proof.Machine.execXorBImm imm rd s
  | .xorBReg rs rd => Sys2Proof.Machine.execXorBReg rs rd s
  | .xorWImm imm rd => Sys2Proof.Machine.execXorWImm imm rd s
  | .xorWReg rs rd => Sys2Proof.Machine.execXorWReg rs rd s
  | .xorLImm imm rd => Sys2Proof.Machine.execXorLImm imm rd s
  | .xorLReg rs rd => Sys2Proof.Machine.execXorLReg rs rd s
  | .notB rd => Sys2Proof.Machine.execNotB rd s
  | .notW rd => Sys2Proof.Machine.execNotW rd s
  | .notL rd => Sys2Proof.Machine.execNotL rd s
  | .shalB rd => Sys2Proof.Machine.execShalB rd s
  | .shalW rd => Sys2Proof.Machine.execShalW rd s
  | .shalL rd => Sys2Proof.Machine.execShalL rd s
  | .sharB rd => Sys2Proof.Machine.execSharB rd s
  | .sharW rd => Sys2Proof.Machine.execSharW rd s
  | .sharL rd => Sys2Proof.Machine.execSharL rd s
  | .shllB rd => Sys2Proof.Machine.execShllB rd s
  | .shllW rd => Sys2Proof.Machine.execShllW rd s
  | .shllL rd => Sys2Proof.Machine.execShllL rd s
  | .shlrB rd => Sys2Proof.Machine.execShlrB rd s
  | .shlrW rd => Sys2Proof.Machine.execShlrW rd s
  | .shlrL rd => Sys2Proof.Machine.execShlrL rd s
  | .rotlB rd => Sys2Proof.Machine.execRotlB rd s
  | .rotlW rd => Sys2Proof.Machine.execRotlW rd s
  | .rotlL rd => Sys2Proof.Machine.execRotlL rd s
  | .rotrB rd => Sys2Proof.Machine.execRotrB rd s
  | .rotrW rd => Sys2Proof.Machine.execRotrW rd s
  | .rotrL rd => Sys2Proof.Machine.execRotrL rd s
  | .rotxlB rd => Sys2Proof.Machine.execRotxlB rd s
  | .rotxlW rd => Sys2Proof.Machine.execRotxlW rd s
  | .rotxlL rd => Sys2Proof.Machine.execRotxlL rd s
  | .rotxrB rd => Sys2Proof.Machine.execRotxrB rd s
  | .rotxrW rd => Sys2Proof.Machine.execRotxrW rd s
  | .rotxrL rd => Sys2Proof.Machine.execRotxrL rd s
  | .bsetImmReg imm rd => Sys2Proof.Machine.execBsetImmReg imm rd s
  | .bsetRegReg rn rd => Sys2Proof.Machine.execBsetRegReg rn rd s
  | .bsetImmInd imm rd => Sys2Proof.Machine.execBsetImmInd imm rd s
  | .bsetRegInd rn rd => Sys2Proof.Machine.execBsetRegInd rn rd s
  | .bsetImmAbs8 imm abs => Sys2Proof.Machine.execBsetImmAbs8 imm abs s
  | .bsetRegAbs8 rn abs => Sys2Proof.Machine.execBsetRegAbs8 rn abs s
  | .bnotImmReg imm rd => Sys2Proof.Machine.execBnotImmReg imm rd s
  | .bnotRegReg rn rd => Sys2Proof.Machine.execBnotRegReg rn rd s
  | .bnotImmInd imm rd => Sys2Proof.Machine.execBnotImmInd imm rd s
  | .bnotRegInd rn rd => Sys2Proof.Machine.execBnotRegInd rn rd s
  | .bnotImmAbs8 imm abs => Sys2Proof.Machine.execBnotImmAbs8 imm abs s
  | .bnotRegAbs8 rn abs => Sys2Proof.Machine.execBnotRegAbs8 rn abs s
  | .bclrImmReg imm rd => Sys2Proof.Machine.execBclrImmReg imm rd s
  | .bclrRegReg rn rd => Sys2Proof.Machine.execBclrRegReg rn rd s
  | .bclrImmInd imm rd => Sys2Proof.Machine.execBclrImmInd imm rd s
  | .bclrRegInd rn rd => Sys2Proof.Machine.execBclrRegInd rn rd s
  | .bclrImmAbs8 imm abs => Sys2Proof.Machine.execBclrImmAbs8 imm abs s
  | .bclrRegAbs8 rn abs => Sys2Proof.Machine.execBclrRegAbs8 rn abs s
  | .btstImmReg imm rd => Sys2Proof.Machine.execBtstImmReg imm rd s
  | .btstRegReg rn rd => Sys2Proof.Machine.execBtstRegReg rn rd s
  | .btstImmInd imm rd => Sys2Proof.Machine.execBtstImmInd imm rd s
  | .btstRegInd rn rd => Sys2Proof.Machine.execBtstRegInd rn rd s
  | .btstImmAbs8 imm abs => Sys2Proof.Machine.execBtstImmAbs8 imm abs s
  | .btstRegAbs8 rn abs => Sys2Proof.Machine.execBtstRegAbs8 rn abs s
  | .bldReg imm rd => Sys2Proof.Machine.execBldReg imm rd s
  | .bldInd imm rd => Sys2Proof.Machine.execBldInd imm rd s
  | .bldAbs8 imm abs => Sys2Proof.Machine.execBldAbs8 imm abs s
  | .bildReg imm rd => Sys2Proof.Machine.execBildReg imm rd s
  | .bildInd imm rd => Sys2Proof.Machine.execBildInd imm rd s
  | .bildAbs8 imm abs => Sys2Proof.Machine.execBildAbs8 imm abs s
  | .bstReg imm rd => Sys2Proof.Machine.execBstReg imm rd s
  | .bstInd imm rd => Sys2Proof.Machine.execBstInd imm rd s
  | .bstAbs8 imm abs => Sys2Proof.Machine.execBstAbs8 imm abs s
  | .bistReg imm rd => Sys2Proof.Machine.execBistReg imm rd s
  | .bistInd imm rd => Sys2Proof.Machine.execBistInd imm rd s
  | .bistAbs8 imm abs => Sys2Proof.Machine.execBistAbs8 imm abs s
  | .bandReg imm rd => Sys2Proof.Machine.execBandReg imm rd s
  | .bandInd imm rd => Sys2Proof.Machine.execBandInd imm rd s
  | .bandAbs8 imm abs => Sys2Proof.Machine.execBandAbs8 imm abs s
  | .biandReg imm rd => Sys2Proof.Machine.execBiandReg imm rd s
  | .biandInd imm rd => Sys2Proof.Machine.execBiandInd imm rd s
  | .biandAbs8 imm abs => Sys2Proof.Machine.execBiandAbs8 imm abs s
  | .borReg imm rd => Sys2Proof.Machine.execBorReg imm rd s
  | .borInd imm rd => Sys2Proof.Machine.execBorInd imm rd s
  | .borAbs8 imm abs => Sys2Proof.Machine.execBorAbs8 imm abs s
  | .biorReg imm rd => Sys2Proof.Machine.execBiorReg imm rd s
  | .biorInd imm rd => Sys2Proof.Machine.execBiorInd imm rd s
  | .biorAbs8 imm abs => Sys2Proof.Machine.execBiorAbs8 imm abs s
  | .bxorReg imm rd => Sys2Proof.Machine.execBxorReg imm rd s
  | .bxorInd imm rd => Sys2Proof.Machine.execBxorInd imm rd s
  | .bxorAbs8 imm abs => Sys2Proof.Machine.execBxorAbs8 imm abs s
  | .bixorReg imm rd => Sys2Proof.Machine.execBixorReg imm rd s
  | .bixorInd imm rd => Sys2Proof.Machine.execBixorInd imm rd s
  | .bixorAbs8 imm abs => Sys2Proof.Machine.execBixorAbs8 imm abs s
  | .bra disp => Sys2Proof.Machine.execBra disp s
  | .brn disp => Sys2Proof.Machine.execBrn disp s
  | .bhi disp => Sys2Proof.Machine.execBhi disp s
  | .bls disp => Sys2Proof.Machine.execBls disp s
  | .bcc disp => Sys2Proof.Machine.execBcc disp s
  | .bcs disp => Sys2Proof.Machine.execBcs disp s
  | .bne disp => Sys2Proof.Machine.execBne disp s
  | .beq disp => Sys2Proof.Machine.execBeq disp s
  | .bvc disp => Sys2Proof.Machine.execBvc disp s
  | .bvs disp => Sys2Proof.Machine.execBvs disp s
  | .bpl disp => Sys2Proof.Machine.execBpl disp s
  | .bmi disp => Sys2Proof.Machine.execBmi disp s
  | .bge disp => Sys2Proof.Machine.execBge disp s
  | .blt disp => Sys2Proof.Machine.execBlt disp s
  | .bgt disp => Sys2Proof.Machine.execBgt disp s
  | .ble disp => Sys2Proof.Machine.execBle disp s
  | .jmpInd rn => Sys2Proof.Machine.execJmpInd rn s
  | .jmpAbs24 abs => Sys2Proof.Machine.execJmpAbs24 abs s
  | .jmpMemInd abs => Sys2Proof.Machine.execJmpMemInd abs s
  | .bsr disp => Sys2Proof.Machine.execBsr disp s
  | .jsrInd rn => Sys2Proof.Machine.execJsrInd rn s
  | .jsrAbs24 abs => Sys2Proof.Machine.execJsrAbs24 abs s
  | .jsrMemInd abs => Sys2Proof.Machine.execJsrMemInd abs s
  | .rts => Sys2Proof.Machine.execRts s
  | .ldcBImm imm => Sys2Proof.Machine.execLdcBImm imm s
  | .ldcBReg rs => Sys2Proof.Machine.execLdcBReg rs s
  | .ldcWInd rs => Sys2Proof.Machine.execLdcWInd rs s
  | .ldcWDisp16 disp rs => Sys2Proof.Machine.execLdcWDisp16 disp rs s
  | .ldcWDisp24 disp rs => Sys2Proof.Machine.execLdcWDisp24 disp rs s
  | .ldcWPostInc rs => Sys2Proof.Machine.execLdcWPostInc rs s
  | .ldcWAbs16 abs => Sys2Proof.Machine.execLdcWAbs16 abs s
  | .ldcWAbs24 abs => Sys2Proof.Machine.execLdcWAbs24 abs s
  | .stcBReg rd => Sys2Proof.Machine.execStcBReg rd s
  | .stcWToInd rd => Sys2Proof.Machine.execStcWToInd rd s
  | .stcWToDisp16 disp rd => Sys2Proof.Machine.execStcWToDisp16 disp rd s
  | .stcWToDisp24 disp rd => Sys2Proof.Machine.execStcWToDisp24 disp rd s
  | .stcWToPreDec rd => Sys2Proof.Machine.execStcWToPreDec rd s
  | .stcWToAbs16 abs => Sys2Proof.Machine.execStcWToAbs16 abs s
  | .stcWToAbs24 abs => Sys2Proof.Machine.execStcWToAbs24 abs s
  | .andc imm => Sys2Proof.Machine.execAndc imm s
  | .orc imm => Sys2Proof.Machine.execOrc imm s
  | .xorc imm => Sys2Proof.Machine.execXorc imm s
  | .trapa imm => Sys2Proof.Machine.execTrapa imm s
  | .nop => Sys2Proof.Machine.execNop s
  | .sleep => Sys2Proof.Machine.execSleep s
  | .rte => Sys2Proof.Machine.execRte s

end Sys2Proof.Machine
end

