-- ==== Sys2Proof/Machine/Rtc.lean ====
section
/-! DEFINITION. The real-time clock (`60_exceptions.md` §6). -/

namespace Sys2Proof.Machine

/-- `wallClock()` (rule R1221): the next reading given, or the last one again when none is left (log 13). -/
def State.readWall (s : State) : WallClock × State :=
  match s.wallQueue with
  | [] => (s.wallNow, s)
  | w :: ws => (w, { s with wallNow := w, wallQueue := ws })

/-- The part of a reading that `rtcPrev` keeps (rules R1220, R1222). -/
def WallClock.time (w : WallClock) : RtcTime := ⟨w.sec, w.min, w.hour⟩

/-- `bcd(v)` (rule R1221). -/
def bcd (v : Nat) : Byte := BitVec.ofNat 8 (v / 10 * 16 + v % 10)

/-- `rtcInitialise()` (rule R1220). -/
def State.rtcInitialise (s : State) : State :=
  let w := s.readWall
  { w.2 with rtcInit := true, rtcQuarter := 0, rtcPrev := w.1.time }

/-- The wall-clock fields, rewritten (rule R1221). -/
def State.writeClock (s : State) (w : WallClock) : State :=
  let io := s.cfg.io
  (((s.rawSet io.rtcSec (bcd w.sec)).rawSet io.rtcMin (bcd w.min)).rawSet io.rtcHour (bcd w.hour)).rawSet io.rtcDay
    (bcd w.day)

/-- `setbit(F)` where a condition holds. -/
def State.setBitIf (s : State) (p : Bool) (f : BitLoc) : State := if p then s.setBit f true else s

/-- `rtcTick()` (rule R1222). -/
def State.rtcTick (s : State) : State :=
  if s.rtcInit then
    let w := s.readWall
    let io := s.cfg.io
    let now := w.1.time
    let s₁ := w.2.writeClock w.1
    let s₂ := { s₁ with rtcQuarter := s₁.rtcQuarter + 1 }
    let s₃ := s₂.setBit io.flagRtcQuarter true
    let s₄ := s₃.setBitIf (decide (s₃.rtcQuarter % 2 = 0)) io.flagRtcHalf
    let s₅ := s₄.setBitIf (decide (now.sec ≠ s.rtcPrev.sec)) io.flagRtcSecond
    let s₆ := s₅.setBitIf (decide (now.min ≠ s.rtcPrev.min)) io.flagRtcMinute
    let s₇ := s₆.setBitIf (decide (now.hour ≠ s.rtcPrev.hour)) io.flagRtcHour
    { s₇ with rtcPrev := now }
  else s

end Sys2Proof.Machine
end

