-- ==== Sys2Proof/Machine/Interrupts.lean ====
section
/-! DEFINITION. The interrupt controller (`60_exceptions.md` §2). Taking an interrupt is `State.interrupt`. -/

namespace Sys2Proof.Machine

/-- An interrupt source of the step's check: its flag, its enable, its vector (rule R1111). -/
abbrev Source := BitLoc × BitLoc × Addr

/-- The sources, in the fixed priority order (rules R1110, R1111). -/
def sources (c : Config) : List Source :=
  [(c.io.flagIrq0, c.io.enIrq0, c.vecIrq0),
   (c.io.flagIrq1, c.io.enIrq1, c.vecIrq1),
   (c.io.flagRtcQuarter, c.io.enRtcQuarter, c.vecRtcQuarter),
   (c.io.flagRtcHalf, c.io.enRtcHalf, c.vecRtcHalf),
   (c.io.flagRtcSecond, c.io.enRtcSecond, c.vecRtcSecond),
   (c.io.flagRtcMinute, c.io.enRtcMinute, c.vecRtcMinute),
   (c.io.flagRtcHour, c.io.enRtcHour, c.vecRtcHour),
   (c.io.flagTb1, c.io.enTb1, c.vecTb1)]

/-- A source is pending and enabled (rule R1110). -/
def State.requests (s : State) (src : Source) : Bool := s.bit src.1 && s.bit src.2.1

/-- The source that a check takes: the first that is pending and enabled (rule R1110). -/
def State.takenSource (s : State) : Option Source := (sources s.cfg).find? s.requests

/-- `interruptCheck()` (rule R1110). -/
def State.interruptCheck (s : State) : State :=
  if s.ccr.i then s
  else
    let s₁ := if s.rtcInit then s else s.rtcInitialise
    match s₁.takenSource with
    | some src => s₁.interrupt src.2.2
    | none => s₁

end Sys2Proof.Machine
end

