-- ==== Sys2Proof/Machine/Sci.lean ====
section
/-! DEFINITION. The SCI3 infrared unit (`60_exceptions.md` §9). -/

namespace Sys2Proof.Machine

/-- The transmit half of `sciTick()` (rule R1250). -/
def State.sciTransmit (s : State) : State :=
  let io := s.cfg.io
  if !s.bit io.sciTe then s.setBit io.sciTdre true
  else if s.bit io.sciTdre then s
  else ((s.emit (.irTx (s.raw io.sciTdr))).setBit io.sciTdre true).setBit io.sciTend true

/-- The receive half of `sciTick()` (rule R1250). -/
def State.sciReceive (s : State) : State :=
  let io := s.cfg.io
  match s.irRx with
  | [] => s
  | b :: rest =>
    if s.bit io.sciRe && !s.bit io.sciRdrf then
      ({ s with irRx := rest }.rawSet io.sciRdr b).setBit io.sciRdrf true
    else s

/-- `sciTick()` (rule R1250). -/
def State.sciTick (s : State) : State := s.sciTransmit.sciReceive

end Sys2Proof.Machine
end

