-- ==== Sys2Proof/Machine/Ssu.lean ====
section
/-! DEFINITION. The SSU and the three devices behind it: EEPROM, accelerometer and LCD controller (`60_exceptions.md`
§7, §8). -/

namespace Sys2Proof.Machine

/-- How the SSU calls a device (rule R1230). -/
inductive SsuMode where
  | combined
  | txonly
deriving DecidableEq, Repr

/-- The two paths to the LCD controller (rule R1246). -/
inductive LcdPath where
  | data
  | command
deriving DecidableEq, Repr

/-- `active(CS)` (rule R1236). -/
def State.selected (s : State) (cs : BitLoc) (active : Bool) : Bool := s.bit cs == active

/-- `lcdDcAsserted()` (rule R1235). -/
def State.dcAsserted (s : State) : Bool := s.bit s.cfg.io.lcdDc == s.cfg.lcdDcAsserted

/-- `frame(p)` (rule R1233): the next progress, and whether this is a byte boundary. -/
def frame (p : Fin 7) : Fin 7 × Bool := (p + 1, decide (p = 6))

/-! ### The EEPROM (rules R1240, R1241) -/

/-- What an unlisted byte of `eepMem` reads as: the erased state (`70_reset_and_hazards.md` rule R1301; log 10). -/
def eepErased : Byte := 0xFF

/-- The address a read reaches: it runs on through the memory and wraps modulo 65536. -/
def Eeprom.readAddr (e : Eeprom) : BitVec 16 := e.address + BitVec.ofNat 16 e.offset

/-- The address a write reaches: it wraps within the 128-byte page of `address`. -/
def Eeprom.writeAddr (e : Eeprom) : BitVec 16 :=
  (e.address &&& 0xFF80) ||| ((e.address + BitVec.ofNat 16 e.offset) &&& 0x7F)

/-- The command that a byte is while the EEPROM is waiting. -/
def State.eepCommand (s : State) (tx : Byte) : State :=
  if tx = s.cfg.eepCmdRead then { s with eep := { s.eep with kind := .read, state := .addrHigh } }
  else if tx = s.cfg.eepCmdWrite then { s with eep := { s.eep with kind := .write, state := .addrHigh } }
  else if tx = s.cfg.eepCmdWren then
    { s with eep := { s.eep with status := s.eep.status ||| (1#8 <<< s.cfg.eepWelBit.toNat) } }
  else if tx = s.cfg.eepCmdRdsr then { s with eep := { s.eep with state := .readStatus } }
  else s.emit (.unknownCommand tx)

/-- A byte at the EEPROM's byte boundary: what it sends back, and the state after (rule R1241). -/
def State.eepByte (s : State) (mode : SsuMode) (tx : Byte) (rx : Option Byte) : Option Byte × State :=
  let e := s.eep
  match e.state with
  | .waiting => (rx, s.eepCommand tx)
  | .addrHigh => (rx, { s with eep := { e with address := tx ++ e.address.extractLsb' 0 8, state := .addrLow } })
  | .addrLow =>
    let next : EepromState := match e.kind with
      | .read => .readData
      | .write => .writeData
    (rx, { s with eep := { e with address := e.address.extractLsb' 8 8 ++ tx, offset := 0, state := next } })
  | .readData =>
    (match mode with
      | .combined => some (s.eepMem.read eepErased e.readAddr.toNat)
      | .txonly => rx,
     { s with eep := { e with offset := e.offset + 1 } })
  | .writeData =>
    (rx, { s with eepMem := s.eepMem.write eepErased e.writeAddr.toNat tx, eep := { e with offset := e.offset + 1 } })
  | .readStatus =>
    (match mode with
      | .combined => some e.status
      | .txonly => rx,
     s)

/-- `eepCycle(mode, tx, rx)` (rule R1241): done, the received byte, and the state after. -/
def State.eepCycle (s : State) (mode : SsuMode) (tx : Byte) (rx : Option Byte) : Bool × Option Byte × State :=
  let p := frame s.eep.progress
  let s₁ := { s with eep := { s.eep with progress := p.1 } }
  if p.2 then (true, s₁.eepByte mode tx rx) else (false, rx, s₁)

/-! ### The accelerometer (rule R1244) -/

/-- The index of the next data byte. -/
def Accel.index (a : Accel) : Nat := a.address.toNat + a.offset

/-- `accelByte(mode, tx, rx)`: every call is a byte boundary. An index past the store is AccelOverrun. -/
def State.accelByte (s : State) (mode : SsuMode) (tx : Byte) (rx : Option Byte) :
    Except FaultKind (Option Byte × State) :=
  let a := s.acc
  match a.state with
  | .waiting =>
    let addr := match mode with
      | .combined => tx &&& 0x0F
      | .txonly => tx
    .ok (rx, { s with acc := ⟨.data, addr, 0⟩ })
  | .data =>
    if s.cfg.accelSize ≤ a.index then .error (.accelOverrun a.index)
    else
      let next := { a with offset := a.offset + 1 }
      match mode with
      | .combined => .ok (some (s.accMem.getD a.index 0), { s with acc := next })
      | .txonly => .ok (rx, { s with accMem := s.accMem.set a.index tx, acc := next })

/-! ### The LCD controller (rule R1246) -/

/-- The framebuffer's size. -/
def Config.fbSize (c : Config) : Nat := c.lcdPages * c.lcdWidth * 2

/-- Where the next data byte goes in the framebuffer. -/
def Lcd.index (l : Lcd) (width : Nat) : Nat := l.page.toNat * width * 2 + l.column.toNat * 2 + l.offset.val

/-- What an unlisted byte of the framebuffer reads as (log 4). -/
def fbUnlisted : Byte := 0x00

/-- A data byte at the LCD's byte boundary. -/
def State.lcdData (s : State) (tx : Byte) : Except FaultKind State :=
  let l := s.lcd
  let i := l.index s.cfg.lcdWidth
  if Config.fbSize s.cfg ≤ i then .error (.lcdRange i)
  else .ok { s with
    fb := s.fb.write fbUnlisted i tx
    lcd := { l with column := if l.offset = 1 then l.column + 1 else l.column, offset := 1 - l.offset } }

/-- A command byte at the LCD's byte boundary. -/
def Lcd.command (l : Lcd) (tx : Byte) : Lcd :=
  match l.state with
  | .contrast => { l with contrast := tx, state := .waiting }
  | .waiting =>
    if tx.toNat ≤ 0x0F then { l with column := (l.column &&& 0xF0) ||| tx }
    else if tx.toNat ≤ 0x17 then { l with column := (l.column &&& 0x0F) ||| ((tx &&& 0x07) <<< 4) }
    else if 0xB0 ≤ tx.toNat ∧ tx.toNat ≤ 0xBF then { l with page := tx.extractLsb' 0 4 }
    else if tx = 0x81 then { l with state := .contrast }
    else l

/-- `lcdCycle(path, tx)`: done, and the state after. -/
def State.lcdCycle (s : State) (path : LcdPath) (tx : Byte) : Except FaultKind (Bool × State) :=
  let p := frame s.lcd.progress
  let s₁ := { s with lcd := { s.lcd with progress := p.1 } }
  if p.2 then
    match path with
    | .data =>
      match s₁.lcdData tx with
      | .error k => .error k
      | .ok s₂ => .ok (true, s₂)
    | .command => .ok (true, { s₁ with lcd := s₁.lcd.command tx })
  else .ok (false, s₁)

/-! ### The SSU tick (rule R1232) -/

/-- The accelerometer's and the EEPROM's part of a cycle: each is served while its select is active, the accelerometer
first. -/
def State.ssuSelects (s : State) (mode : SsuMode) (tx : Byte) : Except FaultKind (Bool × Option Byte × State) :=
  let accel : Except FaultKind (Bool × Option Byte × State) :=
    if s.selected s.cfg.io.csAccel s.cfg.csAccelActive then
      match s.accelByte mode tx none with
      | .error k => .error k
      | .ok (rx, s₁) => .ok (true, rx, s₁)
    else .ok (false, none, s)
  match accel with
  | .error k => .error k
  | .ok (done, rx, s₁) =>
    if s₁.selected s₁.cfg.io.csEeprom s₁.cfg.csEepromActive then
      let r := s₁.eepCycle mode tx rx
      .ok (done || r.1, r.2)
    else .ok (done, rx, s₁)

/-- The LCD's part of a transmit-only cycle: the data path by the data/command pin alone, else the command path while
its select is active. -/
def State.ssuLcd (s : State) (tx : Byte) : Except FaultKind (Bool × State) :=
  if s.dcAsserted then s.lcdCycle .data tx
  else if s.selected s.cfg.io.csLcd s.cfg.csLcdActive then s.lcdCycle .command tx
  else .ok (false, s)

/-- The handlers of a cycle with a pending byte. -/
def State.ssuServe (s : State) (tx : Byte) : Except FaultKind (Bool × Option Byte × State) :=
  if s.bit s.cfg.io.ssuRe then s.ssuSelects .combined tx
  else
    match s.ssuSelects .txonly tx with
    | .error k => .error k
    | .ok (done, _, s₁) =>
      match s₁.ssuLcd tx with
      | .error k => .error k
      | .ok (done', s₂) => .ok (done || done', none, s₂)

/-- The end of a transfer: the status bits, and in combined mode the received byte. -/
def State.ssuComplete (s : State) (rx : Option Byte) : State :=
  let io := s.cfg.io
  let s₁ := (s.setBit io.ssuTdre true).setBit io.ssuTend true
  if s₁.bit io.ssuRe then
    let s₂ := match rx with
      | some b => s₁.rawSet io.ssuRdr b
      | none => s₁
    s₂.setBit io.ssuRdrf true
  else s₁

/-- `ssuTick()`. A fault leaves the unit's state as it was (rule R1101). -/
def State.ssuTick (s : State) : State :=
  let io := s.cfg.io
  if !s.bit io.ssuTe then s.setBit io.ssuTdre true
  else if s.bit io.ssuTdre then s
  else
    match s.ssuServe (s.raw io.ssuTdr) with
    | .error k => s.raise k none
    | .ok (done, rx, s₁) => if done then s₁.ssuComplete rx else s₁

end Sys2Proof.Machine
end

