-- ==== Sys2Proof/Machine/Timers.lean ====
section
/-! DEFINITION. Timer B1 and Timer W (`60_exceptions.md` §5). -/

namespace Sys2Proof.Machine

/-- `tb1Running` (rule R1200). -/
def State.tb1Running (s : State) : Bool := !s.bit s.cfg.io.tb1Stby && s.bit s.cfg.io.tb1Run
/-- `twRunning` (rule R1200). -/
def State.twRunning (s : State) : Bool := !s.bit s.cfg.io.twStby && s.bit s.cfg.io.twCts

/-- What a prescale answers (rule R1201): the new prescale counter and whether the timer counts now; none is
ConfigError. -/
def prescale (running : Bool) (map : List (Option Nat)) (code pre : Nat) : Option (Nat × Bool) :=
  if running then
    match map.getD code none with
    | none => none
    | some divisor => if divisor ≤ pre + 1 then some (0, true) else some (pre + 1, false)
  else some (pre, false)

/-- Timer B1 counts once (rule R1202). -/
def State.tb1Count (s : State) : State :=
  let io := s.cfg.io
  let c := s.raw io.tb1Cnt
  if c = 0xFF then (s.rawSet io.tb1Cnt s.tb1Load).setBit io.flagTb1 true
  else s.rawSet io.tb1Cnt (c + 1)

/-- `timerB1Advance()` (rules R1201, R1202). -/
def State.timerB1Advance (s : State) : State :=
  let code := s.field s.cfg.io.tb1Cks
  match prescale s.tb1Running s.cfg.tb1Prescale code s.tb1Pre with
  | none => s.raise (.configError .b1 code) none
  | some (pre, now) =>
    let s₁ := { s with tb1Pre := pre }
    if now then s₁.tb1Count else s₁

/-- Timer W counts once; the answer says whether it matched and whether it overflowed (rule R1205). -/
def State.twCount (s : State) : State × Bool × Bool :=
  let io := s.cfg.io
  let t := s.raw16 io.twTcnt + 1
  let s₁ := s.rawSet16 io.twTcnt t
  let ovf := decide (t = 0)
  let s₂ := if ovf then s₁.setBit io.twOvf true else s₁
  let hit := decide (t = s₂.raw16 io.twGra)
  let s₃ := if hit then s₂.setBit io.twImfa true else s₂
  let s₄ := if hit && s₃.bit io.twCclr then s₃.rawSet16 io.twTcnt 0 else s₃
  (s₄, hit, ovf)

/-- `twDeliver(matchNow, ovfNow)` (rule R1204). -/
def State.twDeliver (s : State) (matchNow ovfNow : Bool) : State :=
  let io := s.cfg.io
  let m := if s.cfg.twIrqLevel then s.bit io.twImfa else matchNow
  let o := if s.cfg.twIrqLevel then s.bit io.twOvf else ovfNow
  if !s.ccr.i && ((m && s.bit io.twImiea) || (o && s.bit io.twOvie)) then s.interrupt s.cfg.vecTw else s

/-- `timerWAdvance()` (rule R1205). A ConfigError stops the advancement before the delivery (rule R1101). -/
def State.timerWAdvance (s : State) : State :=
  let code := s.field s.cfg.io.twCks
  match prescale s.twRunning s.cfg.twPrescale code s.twPre with
  | none => s.raise (.configError .w code) none
  | some (pre, now) =>
    let s₁ := { s with twPre := pre }
    if now then
      let r := s₁.twCount
      r.1.twDeliver r.2.1 r.2.2
    else s₁.twDeliver false false

end Sys2Proof.Machine
end

