-- ==== Sys2Proof/Machine/Run.lean ====
section
/-! DEFINITION. The host loop of `60_exceptions.md` §4: host inputs, one CPU step, and the ticks it calls for. -/

namespace Sys2Proof.Machine

/-! ### Outputs of the display tick -/

/-- `lcdEmit()` (rule R1262). -/
def State.lcdEmit (s : State) : State := s.emit (.lcdFrame s.fb s.lcd.contrast)

/-- The tone's frequency, an exact rational (rule R1263). -/
def State.audioFreq (s : State) : Rat :=
  let gra := s.raw16 s.cfg.io.twGra
  if s.twRunning && gra != 0 then 31500 / (gra.toNat : Rat) else 0

/-- The tone's volume (rule R1263). -/
def State.audioVolume (s : State) : Rat :=
  if s.raw16 s.cfg.io.twGrb = s.raw16 s.cfg.io.twGrc then 1 else 1 / 4

/-- `audioEmit()` (rule R1263). -/
def State.audioEmit (s : State) : State := s.emit (.audio s.audioFreq s.audioVolume)

/-! ### Ticks (rule R1140) -/

/-- A unit runs, unless an earlier one of the tick has raised a fault (rule R1101). -/
def State.thenUnit (s : State) (due : Bool) (unit : State → State) : State :=
  if s.faulted then s else if due then unit s else s

/-- `SSU_PERIOD(field(SSU_CKS))` (rule R1234; log 25). -/
def State.ssuPeriod (s : State) : Nat := s.cfg.ssuPeriod.getD (s.field s.cfg.io.ssuCks) 1
/-- `SCI3_PERIOD(field(SCI_CKS))` (rule R1250; log 25). -/
def State.sci3Period (s : State) : Nat := s.cfg.sci3Period.getD (s.field s.cfg.io.sciCks) 1

/-- `k mod P = 0`. -/
def dueAt (k period : Nat) : Bool := decide (k % period = 0)

/-- `tick(k)` (rules R1140, R1314). -/
def State.tick (s : State) (k : Nat) : State :=
  let s₁ := s.thenUnit (dueAt k s.ssuPeriod) State.ssuTick
  let s₂ := s₁.thenUnit (dueAt k s₁.sci3Period) State.sciTick
  let s₃ := s₂.thenUnit (dueAt k s₂.cfg.timerPeriod) State.timerB1Advance
  let s₄ := s₃.thenUnit (dueAt k s₃.cfg.timerPeriod) State.timerWAdvance
  let s₅ := s₄.thenUnit (dueAt k s₄.cfg.displayPeriod) State.rtcTick
  let s₆ := s₅.thenUnit (dueAt k s₅.cfg.displayPeriod) State.lcdEmit
  s₆.thenUnit (dueAt k s₆.cfg.displayPeriod) State.audioEmit

/-- One pass of the loop of ticks. A tick that faults leaves `cycleIndex` at its own index (rule R1101; log 15). -/
def State.tickOnce (s : State) : State :=
  let s₁ := s.tick s.cycleIndex
  if s₁.faulted then s₁ else { s₁ with cycleIndex := s₁.cycleIndex + 1 }

/-- `C` ticks, ended by a fault (rule R1140). -/
def State.ticks : Nat → State → State
  | 0, s => s
  | k + 1, s => if s.faulted then s else State.ticks k s.tickOnce

/-! ### Host inputs (rule R1141) -/

/-- `pushKey(k)` (rule R1270). -/
def State.pushKey (s : State) (k : Byte) : State :=
  let s₁ := s.rawSet s.cfg.io.keyPort k
  if k = s.cfg.wakeKey ∧ s.ccr.i = false then
    let flag := match s.cfg.keyIrq with
      | .irq0 => s.cfg.io.flagIrq0
      | .irq1 => s.cfg.io.flagIrq1
    { s₁.setBit flag true with sleep := false }
  else s₁

/-- One host input. -/
def State.applyInput (s : State) : HostInput → State
  | .pushKey k => s.pushKey k
  | .irReceive b => { s with irRx := s.irRx ++ [b] }
  | .wallReading w => { s with wallQueue := s.wallQueue ++ [w] }
  | .stop => { s with stopRequested := true }

/-- The host inputs that wait for this pass (log 12). -/
def State.takeInputs (s : State) : State :=
  match s.inputs with
  | [] => s
  | batch :: rest => batch.foldl State.applyInput { s with inputs := rest }

/-- The end of a run by the stop request (`70_reset_and_hazards.md` rules R1350, R1351). -/
def State.endRun (s : State) : State := { s.emit (.eepromSave s.eepMem) with runEnded := true }

/-! ### The CPU's step (rule R1140) -/

/-- `keyAck()` (rule R1271). -/
def State.keyAck (s : State) : State :=
  if s.pc = s.cfg.keyAckPc then s.rawSet s.cfg.io.keyPort s.cfg.keyNeutral else s

/-- The register write of a patch (rule R1272). -/
def State.writeView (s : State) : Option ViewWrite → State
  | none => s
  | some (.byte r v) => s.set8 r v
  | some (.half r v) => s.set16 r v
  | some (.long r v) => s.set32 r v

/-- `applyPcPatch()` (rule R1272). DESIGN CHOICE (log 31): where several entries have pc as their address, the first of the
list applies. -/
def State.applyPcPatch (s : State) : State :=
  match s.cfg.pcPatches.find? (fun e => e.addr == s.pc) with
  | none => s
  | some e => (s.writeView e.write).setPc (s.pc + BitVec.ofInt 16 e.delta)

/-- The ten bytes at pc, read without hooks (`20_memory.md` rule R233). -/
def State.fetch (s : State) : List Byte :=
  (List.range 10).map fun k => s.raw (s.pc + BitVec.ofNat 16 k)

/-- The state in which an awake step decodes: the key acknowledge and the patch have been applied. -/
def State.beforeDecode (s : State) : State := s.keyAck.applyPcPatch

/-- `CYCLES(row)` (`70_reset_and_hazards.md` rule R1340; log 25). -/
def cycleCost (c : Config) (i : Instr) : Nat := c.cycles.getD i.row 1

/-- The end of an executed instruction: pc advances by the declared length and the instruction is counted. -/
def State.retire (s : State) (i : Instr) : State :=
  { s with pc := s.pc + BitVec.ofNat 16 i.declaredLength, instrCount := s.instrCount + 1 }

/-- What follows an instruction's executor in a pass: nothing after a fault; else the retirement, the interrupt check
and the ticks of the instruction's cost. -/
def State.afterExec (s : State) (i : Instr) : State :=
  if s.faulted then s else State.ticks (cycleCost s.cfg i) (s.retire i).interruptCheck

/-- A pass of a sleeping CPU: the interrupt check and the ticks of the idle cost. -/
def State.idle (s : State) : State := State.ticks s.cfg.sleepIdleCycles s.interruptCheck

/-- The dispatch keys that a DecodeError names (`30_encoding.md` rules R322, R330; log 16). -/
def rejectKeys (bs : List Byte) : DecodeReject → DecodeKeys
  | .noRow keys => keys
  | .truncated => decodeKeys (bs.getD 0 0) (bs.getD 1 0) (bs.getD 2 0)

/-- An awake CPU's pass. -/
def State.runInstr (s : State) : Host.Outcome State Fault Refusal :=
  let s₁ := s.beforeDecode
  match decode s₁.fetch with
  | .error e => .next (s₁.raise .decodeError (some (rejectKeys s₁.fetch e)))
  | .ok i =>
    match exec i s₁ with
    | .next s₂ => .next (s₂.afterExec i)
    | .fault f => .fault f
    | .refused r => .refused r

/-- One pass of the host loop (rules R1101, R1140, R1350; log 11). A Faulted machine does nothing (log 14). -/
def State.pass (s : State) : Host.Outcome State Fault Refusal :=
  if s.runEnded then .fault .runEnded
  else if s.faulted then .next s
  else
    let s₁ := s.takeInputs
    if s₁.stopRequested then .next s₁.endRun
    else if s₁.sleep then .next s₁.idle
    else s₁.runInstr

/-! ### Placing an instruction where the next step fetches -/

/-- Bytes written from an address on, without hooks. -/
def State.rawSetAll (s : State) (a : Addr) : List Byte → State
  | [] => s
  | b :: bs => (s.rawSet a b).rawSetAll (a + 1) bs

/-- The state with an awake, running machine and no host input waiting: what a fetch needs. -/
def State.readyToFetch (s : State) : State :=
  { s with sleep := false, fault := none, stopRequested := false, runEnded := false, inputs := [] }

/-- The instruction `w` of `nbits` bits, stored where the next pass fetches. -/
def State.placeAtFetch (s : State) (nbits w : Nat) : State :=
  s.readyToFetch.rawSetAll s.readyToFetch.beforeDecode.pc (tableBytes nbits w)

end Sys2Proof.Machine
end

