-- ==== Sys2Proof/Machine/Step.lean ====
section
/-! DEFINITION. The step, and the placing of an instruction before it. What they do is in `Machine/Run.lean`. -/

namespace Sys2Proof.Machine

/-- One step: one pass of the host loop of `60_exceptions.md` rule R1140 (log 11). -/
def step (s : State) : Host.Outcome State Fault Refusal := s.pass

/-- `s` with the instruction `w` of `nbits` bits stored where `step` fetches next. A program comes into memory from
outside the machine, as its image (log 8): this stands for that load. -/
def State.withFetchWord (s : State) (nbits w : Nat) : State := s.placeAtFetch nbits w

end Sys2Proof.Machine
end

