-- ==== Sys2Proof/Machine/Boot.lean ====
section
/-! DEFINITION. Construction: the machine from its images, its parameters and the values it draws at reset
(`70_reset_and_hazards.md` §1). `State.reset` is one such machine. -/

namespace Sys2Proof.Machine

/-- The draws of construction (rule R1302). -/
structure BootDraws where
  regs     : Vector Long 8
  /-- UI, H, U, N, Z, V and C; the I of this value is not used. -/
  flags    : Ccr
  savedPC  : Addr
  savedCCR : Byte
  contrast : Byte
  /-- The framebuffer, at most its size; the rest is 0. -/
  fb       : List Byte
  rtcPrev  : RtcTime
deriving DecidableEq, Repr

/-- An image as a byte store: the first `bound` bytes from address `a` on, in canonical form. -/
def imageFrom (dflt : Byte) (bound : Nat) : Nat → List Byte → Memory
  | _, [] => []
  | a, b :: bs =>
    if a < bound then
      if b = dflt then imageFrom dflt bound (a + 1) bs else (a, b) :: imageFrom dflt bound (a + 1) bs
    else []

/-- The ROM image over the whole address space, zero-padded (rule R1301). -/
def romMemory (rom : List Byte) : Memory := imageFrom Memory.unlisted 65536 0 rom

/-- The EEPROM's bytes: an image, zero-padded, or all 0xFF without one (rule R1301). -/
def eepromMemory : Option (List Byte) → Memory
  | none => []
  | some img => imageFrom 0xFF 65536 0 (img ++ List.replicate (65536 - img.length) 0x00)

/-- `construct(rom, eepromImage)` (rules R1301-R1303). The parameters are rejected where they are not what
`92_eei_decisions.md` says they are, an overlap of IOMAP fields among them (`10_state.md` rule R141; log 18). -/
def State.construct (cfg : Config) (rom : List Byte) (eepromImage : Option (List Byte)) (d : BootDraws) :
    Option State :=
  if cfg.valid then
    let mem := romMemory rom
    some {
      cfg := cfg
      regs := d.regs
      pc := mem.read Memory.unlisted 0x0000 ++ mem.read Memory.unlisted 0x0001
      ccr := { d.flags with i := true }
      mem := mem
      sleep := false
      savedPC := d.savedPC
      savedCCR := d.savedCCR
      instrCount := 0
      cycleIndex := 0
      rtcInit := false
      rtcQuarter := 0
      rtcPrev := d.rtcPrev
      tb1Pre := 0
      twPre := 0
      tb1Load := 0x00
      eep := ⟨.waiting, .read, 0x0000, 0, 0, 0x00⟩
      eepMem := eepromMemory eepromImage
      acc := ⟨.waiting, 0x00, 0⟩
      accMem := cfg.accelInit
      lcd := ⟨.waiting, 0, 0, 0x00, 0, d.contrast⟩
      fb := imageFrom 0x00 (cfg.lcdPages * cfg.lcdWidth * 2) 0 d.fb
      irRx := []
      fault := none
      out := []
      stopRequested := false
      runEnded := false
      inputs := []
      wallNow := ⟨0, 0, 0, 0⟩
      wallQueue := []
      draws := 0 }
  else none

end Sys2Proof.Machine
end

