-- ==== Sys2Proof/Safety.lean ====
section
/-! DEFINITION. What counts as a good state and a good run, and the words the statements are written in: results and
frames of registers, memory as a function of the address with what firmware accesses do to it, and the flags as facts of
arithmetic. Nothing here is used by the machine. -/

namespace Sys2Proof.Machine

/-! ### Good states and runs -/

/-- The stores hold what their spec sizes allow: memory, EEPROM and framebuffer in canonical form, and `ACCEL_SIZE`
bytes of accelerometer store (`20_memory.md` rule R200, `60_exceptions.md` rules R1240, R1244, R1246). -/
def State.storesWf (s : State) : Bool :=
  s.mem.wf && s.eepMem.wfFor eepErased 65536 && s.fb.wfFor fbUnlisted (Config.fbSize s.cfg)
    && s.accMem.length == s.cfg.accelSize

/-- A fault record tells of the state the machine stopped in, and names dispatch keys for DecodeError only
(`60_exceptions.md` rule R1101). -/
def State.faultRecordOk (s : State) : Bool :=
  match s.fault with
  | none => true
  | some r => r.instrCount == s.instrCount && r.pc == s.pc && (r.keys.isSome == decide (r.kind = .decodeError))

/-- The RTC counts no quarter before it is initialised (`60_exceptions.md` rules R1220, R1222), and a run ends only by
the stop request (`70_reset_and_hazards.md` rule R1350). -/
def State.countersOk (s : State) : Bool := (s.rtcInit || s.rtcQuarter == 0) && (!s.runEnded || s.stopRequested)

/-- The invariant of the machine: what every reachable state satisfies. -/
def State.inv (s : State) : Bool := s.storesWf && s.faultRecordOk && s.countersOk

/-- `k` steps, each answering a next state. -/
def stepsTo : Nat → State → State → Prop
  | 0, s, t => s = t
  | k + 1, s, t => ∃ m, step s = .next m ∧ stepsTo k m t

/-- A safe run: none of the first `k` steps from `s` leaves the machine Faulted or asks for a step past the run's end. -/
def safeFor (k : Nat) (s : State) : Prop := ∀ j ≤ k, ∃ t, stepsTo j s t ∧ t.fault = none

/-! ### Results and frames of registers -/

/-- Every byte and every high half but the byte register `rd` is as it was. -/
def onlyByte (s t : State) (rd : Sel) : Prop :=
  (∀ q, q ≠ rd → t.get8 q = s.get8 q) ∧ ∀ q : Sel, q.msb = true → t.get16 q = s.get16 q

/-- Every half but the half register `rd` is as it was. -/
def onlyHalf (s t : State) (rd : Sel) : Prop := ∀ q, q ≠ rd → t.get16 q = s.get16 q

/-- Every register but ERd is as it was. -/
def onlyLong (s t : State) (rd : ErSel) : Prop := ∀ i, i ≠ selIndex rd → t.x i = s.x i

/-- An answer of an instruction. -/
abbrev Answer := Host.Outcome State Fault Refusal

/-- The next state has `v` in the byte register `rd` and flags of which `flags` holds; nothing else differs from `s`. -/
def answersByte (s : State) (o : Answer) (rd : Sel) (v : Byte) (flags : Ccr → Prop) : Prop :=
  ∃ t, o = .next t ∧ t.get8 rd = v ∧ onlyByte s t rd ∧ flags t.ccr
    ∧ t = { s with regs := t.regs, ccr := t.ccr }

/-- The next state has `v` in the half register `rd` and flags of which `flags` holds; nothing else differs from `s`. -/
def answersHalf (s : State) (o : Answer) (rd : Sel) (v : Half) (flags : Ccr → Prop) : Prop :=
  ∃ t, o = .next t ∧ t.get16 rd = v ∧ onlyHalf s t rd ∧ flags t.ccr
    ∧ t = { s with regs := t.regs, ccr := t.ccr }

/-- The next state has `v` in ERd and flags of which `flags` holds; nothing else differs from `s`. -/
def answersLong (s : State) (o : Answer) (rd : ErSel) (v : Long) (flags : Ccr → Prop) : Prop :=
  ∃ t, o = .next t ∧ t.get32 rd = v ∧ onlyLong s t rd ∧ flags t.ccr
    ∧ t = { s with regs := t.regs, ccr := t.ccr }

/-- The next state differs from `s` in its flags only, of which `flags` holds. -/
def answersFlags (s : State) (o : Answer) (flags : Ccr → Prop) : Prop :=
  ∃ t, o = .next t ∧ flags t.ccr ∧ t = { s with ccr := t.ccr }

/-! ### Memory as a function of the address, and what firmware accesses do to it -/

/-- The byte at each address. -/
abbrev Image := Addr → Byte

/-- One byte replaced. -/
def Image.put (m : Image) (a : Addr) (b : Byte) : Image := fun x => if x = a then b else m x

/-- One bit made 0. -/
def Image.clear (m : Image) (f : BitLoc) : Image := m.put f.addr (m f.addr &&& ~~~(1#8 <<< f.bit.toNat))

/-- A firmware write of a byte: it is stored, then a data register's hook clears its empty and end flags
(`20_memory.md` rules R210, R211). -/
def Image.write (io : IoMap) (m : Image) (a : Addr) (b : Byte) : Image :=
  let m₁ := m.put a b
  let m₂ := if a = io.ssuTdr then (m₁.clear io.ssuTdre).clear io.ssuTend else m₁
  if a = io.sciTdr then (m₂.clear io.sciTdre).clear io.sciTend else m₂

/-- A firmware read of a byte: a data register's hook clears its full flag (`20_memory.md` rules R210, R211). -/
def Image.read (io : IoMap) (m : Image) (a : Addr) : Image :=
  let m₁ := if a = io.ssuRdr then m.clear io.ssuRdrf else m
  if a = io.sciRdr then m₁.clear io.sciRdrf else m₁

/-- Firmware writes of bytes at rising addresses (`20_memory.md` rule R213). -/
def Image.writes (io : IoMap) (m : Image) (a : Addr) : List Byte → Image
  | [] => m
  | b :: bs => Image.writes io (m.write io a b) (a + 1) bs

/-- Firmware reads of `n` bytes at rising addresses: the bytes, and memory after (`20_memory.md` rule R213). -/
def Image.reads (io : IoMap) (m : Image) (a : Addr) : Nat → List Byte × Image
  | 0 => ([], m)
  | n + 1 =>
    let r := Image.reads io (m.read io a) (a + 1) n
    (m a :: r.1, r.2)

/-- A block copy of `n` bytes, forward, one byte at a time (`40_data_transfer.md` rule R416). -/
def Image.copy (io : IoMap) (m : Image) (src dst : Addr) : Nat → Image
  | 0 => m
  | n + 1 => Image.copy io ((m.read io src).write io dst (m src)) (src + 1) (dst + 1) n

/-- The bytes that a block copy of `n` bytes moves, in order: each as it is when its turn comes. -/
def Image.copied (io : IoMap) (m : Image) (src dst : Addr) : Nat → List Byte
  | 0 => []
  | n + 1 => m src :: Image.copied io ((m.read io src).write io dst (m src)) (src + 1) (dst + 1) n

/-- The number that bytes are, most significant first (`20_memory.md` rule R204). -/
def bigEndian (bs : List Byte) : Nat := bs.foldl (fun acc b => 256 * acc + b.toNat) 0

/-- `x` is one of the `n` bytes from `a` on. -/
def inRange (a : Addr) (n : Nat) (x : Addr) : Prop := (x - a).toNat < n

/-- `x` holds a flag that the hooks of a write of `n` bytes from `a` on clear. -/
def clearedByWrite (io : IoMap) (a : Addr) (n : Nat) (x : Addr) : Prop :=
  (inRange a n io.ssuTdr ∧ (x = io.ssuTdre.addr ∨ x = io.ssuTend.addr))
    ∨ (inRange a n io.sciTdr ∧ (x = io.sciTdre.addr ∨ x = io.sciTend.addr))

/-- `x` holds a flag that the hooks of a read of `n` bytes from `a` on clear. -/
def clearedByRead (io : IoMap) (a : Addr) (n : Nat) (x : Addr) : Prop :=
  (inRange a n io.ssuRdr ∧ x = io.ssuRdrf.addr) ∨ (inRange a n io.sciRdr ∧ x = io.sciRdrf.addr)

/-- One of the bytes written from `a` on leaves the chip-select `cs` at its inactive level (`60_exceptions.md` rule
R1237). -/
def someDeselects (cs : BitLoc) (active : Bool) (a : Addr) (bs : List Byte) : Prop :=
  ∃ k, k < bs.length ∧ a + BitVec.ofNat 16 k = cs.addr ∧ (bs.getD k 0).getLsbD cs.bit.toNat ≠ active

/-- A device's protocol after a chip-select reset: waiting, offset and progress 0, the rest kept (`60_exceptions.md` rule
R1237). -/
def Eeprom.isReset (e e' : Eeprom) : Prop := e' = { e with state := .waiting, offset := 0, progress := 0 }
def Accel.isReset (a a' : Accel) : Prop := a' = { a with state := .waiting, offset := 0 }
def Lcd.isReset (l l' : Lcd) : Prop := l' = { l with state := .waiting, offset := 0, progress := 0 }

/-- What the hooks of firmware writes of the bytes `bs` from `a` on do outside memory, from `s` to `t`: Timer B1's load
latch and the chip-select resets (`20_memory.md` rule R211, `60_exceptions.md` rules R1203, R1237). -/
structure HookEffect (s t : State) (a : Addr) (bs : List Byte) : Prop where
  latched : ∀ k, k < bs.length → a + BitVec.ofNat 16 k = s.cfg.io.tb1Cnt → t.tb1Load = bs.getD k 0
  notLatched : ¬ inRange a bs.length s.cfg.io.tb1Cnt → t.tb1Load = s.tb1Load
  eepReset : someDeselects s.cfg.io.csEeprom s.cfg.csEepromActive a bs → s.eep.isReset t.eep
  eepKept : ¬ someDeselects s.cfg.io.csEeprom s.cfg.csEepromActive a bs → t.eep = s.eep
  accReset : someDeselects s.cfg.io.csAccel s.cfg.csAccelActive a bs → s.acc.isReset t.acc
  accKept : ¬ someDeselects s.cfg.io.csAccel s.cfg.csAccelActive a bs → t.acc = s.acc
  lcdReset : someDeselects s.cfg.io.csLcd s.cfg.csLcdActive a bs → s.lcd.isReset t.lcd
  lcdKept : ¬ someDeselects s.cfg.io.csLcd s.cfg.csLcdActive a bs → t.lcd = s.lcd

/-- What a firmware write of the bytes `bs` from `a` on does, from `s` to `t`: memory; the bytes that are as they were;
and what its hooks do (`20_memory.md` rules R210, R211, R213). -/
structure WriteEffect (s t : State) (a : Addr) (bs : List Byte) : Prop extends HookEffect s t a bs where
  image : ∀ x, t.raw x = Image.writes s.cfg.io s.raw a bs x
  others : ∀ x, ¬ inRange a bs.length x → ¬ clearedByWrite s.cfg.io a bs.length x → t.raw x = s.raw x

/-- What a firmware read of `n` bytes from `a` on does to memory, from `s` to `t` (`20_memory.md` rules R210, R211,
R213). -/
structure ReadEffect (s t : State) (a : Addr) (n : Nat) : Prop where
  image : ∀ x, t.raw x = (Image.reads s.cfg.io s.raw a n).2 x
  others : ∀ x, ¬ clearedByRead s.cfg.io a n x → t.raw x = s.raw x

/-- The number that a firmware read of `n` bytes from `a` on answers. -/
def readsAs (s : State) (a : Addr) (n : Nat) : Nat := bigEndian (Image.reads s.cfg.io s.raw a n).1

/-- No byte of the `n` from `a` on is a data register whose hook changes memory. -/
def noDataRegister (io : IoMap) (a : Addr) (n : Nat) : Prop :=
  ¬ inRange a n io.ssuTdr ∧ ¬ inRange a n io.sciTdr ∧ ¬ inRange a n io.ssuRdr ∧ ¬ inRange a n io.sciRdr

/-- `t` is `s` but for memory: what a load may change. -/
def State.onlyLoaded (s t : State) : Prop := t = { s with mem := t.mem }

/-- `t` is `s` but for memory, the load latch and the device protocols: what a store may change. -/
def State.onlyStored (s t : State) : Prop :=
  t = { s with mem := t.mem, tb1Load := t.tb1Load, eep := t.eep, acc := t.acc, lcd := t.lcd }

/-- Memory is as it was but for the named bytes and the named bits: every other byte, and in the bytes of those bits every
other bit. -/
def State.keepsBut (s t : State) (bytes : List Addr) (bits : List BitLoc) : Prop :=
  (∀ x, x ∉ bytes → (∀ f ∈ bits, x ≠ f.addr) → t.raw x = s.raw x)
    ∧ ∀ f : BitLoc, f.addr ∉ bytes → f ∉ bits → t.bit f = s.bit f

/-- `t` is `s` but for what a firmware write may touch besides registers, flags and pc. -/
def State.sameButWritten (s t : State) : Prop :=
  t = { s with regs := t.regs, pc := t.pc, ccr := t.ccr, mem := t.mem, tb1Load := t.tb1Load, eep := t.eep,
               acc := t.acc, lcd := t.lcd, draws := t.draws }

/-- `t` is `s` but for registers, flags, pc, memory and the count of draws. -/
def State.sameButRead (s t : State) : Prop :=
  t = { s with regs := t.regs, pc := t.pc, ccr := t.ccr, mem := t.mem, draws := t.draws }

/-! ### Flags as facts of arithmetic -/

/-- A number is no signed value of `n` bits. -/
def outOfRange (n : Nat) (z : Int) : Prop := z < -(2 ^ (n - 1)) ∨ 2 ^ (n - 1) ≤ z

/-- The flags after a move of `v` (`10_state.md` rule R130). -/
def moveFlagsAre {n : Nat} (v : BitVec n) (f g : Ccr) : Prop :=
  (g.n = true ↔ v.toInt < 0) ∧ (g.z = true ↔ v.toNat = 0) ∧ g.v = false ∧ g = { f with n := g.n, z := g.z, v := g.v }

/-- The flags after an add (`10_state.md` rule R133). -/
def addFlagsAre {n : Nat} (a b : BitVec n) (f g : Ccr) : Prop :=
  (g.n = true ↔ (a + b).toInt < 0) ∧ (g.z = true ↔ (a + b).toNat = 0)
    ∧ (g.v = true ↔ outOfRange n (a.toInt + b.toInt)) ∧ (g.c = true ↔ 2 ^ n ≤ a.toNat + b.toNat)
    ∧ (g.h = true ↔ 2 ^ (n / 2) ≤ a.toNat % 2 ^ (n / 2) + b.toNat % 2 ^ (n / 2))
    ∧ g.i = f.i ∧ g.ui = f.ui ∧ g.u = f.u

/-- The flags after a subtract or a compare (`10_state.md` rule R134). -/
def subFlagsAre {n : Nat} (a b : BitVec n) (f g : Ccr) : Prop :=
  (g.n = true ↔ (a - b).toInt < 0) ∧ (g.z = true ↔ (a - b).toNat = 0)
    ∧ (g.v = true ↔ outOfRange n (a.toInt - b.toInt)) ∧ (g.c = true ↔ a.toNat < b.toNat)
    ∧ (g.h = true ↔ a.toNat % 2 ^ (n / 2) < b.toNat % 2 ^ (n / 2))
    ∧ g.i = f.i ∧ g.ui = f.ui ∧ g.u = f.u

/-- The flags after a step by `k`, up or down (`10_state.md` rules R131, R132; `41_arithmetic.md` rule R508). -/
def stepFlagsAre {n : Nat} (v : BitVec n) (k : Int) (f g : Ccr) : Prop :=
  (g.n = true ↔ (BitVec.ofInt n (v.toInt + k)).toInt < 0) ∧ (g.z = true ↔ (BitVec.ofInt n (v.toInt + k)).toNat = 0)
    ∧ (g.v = true ↔ outOfRange n (v.toInt + k)) ∧ g = { f with n := g.n, z := g.z, v := g.v }

/-- The flags after a shift or rotate to `r` with `out` the bit shifted out (`43_shift.md` rule R700). -/
def shiftFlagsAre {n : Nat} (r : BitVec n) (out v : Bool) (f g : Ccr) : Prop :=
  (g.n = true ↔ r.toInt < 0) ∧ (g.z = true ↔ r.toNat = 0) ∧ g.c = out ∧ g.v = v
    ∧ g = { f with n := g.n, z := g.z, v := g.v, c := g.c }

/-! ### Values -/

/-- One bit of a byte made `v`, the others as they were. -/
def bitMade (b : Byte) (k : BitVec 3) (v : Bool) (b' : Byte) : Prop :=
  ∀ j, j < 8 → b'.getLsbD j = if j = k.toNat then v else b.getLsbD j

/-- A value doubled, with a bit let in at the bottom. -/
def shiftedLeft {n : Nat} (v : BitVec n) (low : Bool) : BitVec n := BitVec.ofNat n (2 * v.toNat + if low then 1 else 0)

/-- A value halved, with a bit let in at the top. -/
def shiftedRight {n : Nat} (v : BitVec n) (top : Bool) : BitVec n :=
  BitVec.ofNat n (v.toNat / 2 + if top then 2 ^ (n - 1) else 0)

/-- `a` is the target of a branch at `pc`: the displacement counts from the next instruction, modulo 65536
(`45_branch.md` rule R901). -/
def isTarget (pc : Addr) (disp : BranchDisp) (a : Addr) : Prop :=
  match disp with
  | .d8 d => (a.toNat : Int) = (pc.toNat + 2 + d.toInt) % 65536
  | .d16 d => (a.toNat : Int) = (pc.toNat + 4 + d.toInt) % 65536

/-- `a` is the address of the instruction after a branch at `pc`. -/
def isNext (pc : Addr) (disp : BranchDisp) (a : Addr) : Prop :=
  match disp with
  | .d8 _ => a.toNat = (pc.toNat + 2) % 65536
  | .d16 _ => a.toNat = (pc.toNat + 4) % 65536

/-! ### Instructions by what they may write -/

/-- The instructions that load the CCR: LDC, ANDC, ORC, XORC, RTE (`10_state.md` rule R122). -/
def loadsCcr : Instr → Bool
  | .ldcBImm _ | .ldcBReg _ | .ldcWInd _ | .ldcWDisp16 _ _ | .ldcWDisp24 _ _ | .ldcWPostInc _ | .ldcWAbs16 _
  | .ldcWAbs24 _ | .andc _ | .orc _ | .xorc _ | .rte => true
  | _ => false

/-! ### The peripherals over time -/

/-- `n` runs of a unit. -/
def times (unit : State → State) : Nat → State → State
  | 0, s => s
  | n + 1, s => times unit n (unit s)

/-- Firmware writes a byte to the SSU's transmit register, and seven SSU cycles pass (`60_exceptions.md` rule R1233). -/
def State.ssuSend (s : State) (tx : Byte) : State := times State.ssuTick 7 (s.store8 s.cfg.io.ssuTdr tx)

/-- Bytes sent by the SSU, one after another. -/
def State.ssuSendAll (s : State) (txs : List Byte) : State := txs.foldl State.ssuSend s

/-- Firmware makes a chip-select bit `v`, the rest of its byte as it was. -/
def State.setSelect (s : State) (cs : BitLoc) (v : Bool) : State := s.store8 cs.addr (putBit (s.raw cs.addr) cs.bit v)

/-- Firmware takes the EEPROM's select away and gives it again. -/
def State.eepReselect (s : State) : State :=
  (s.setSelect s.cfg.io.csEeprom (!s.cfg.csEepromActive)).setSelect s.cfg.io.csEeprom s.cfg.csEepromActive

/-- The SSU transmits to the EEPROM and to no other device, in combined mode or not (`60_exceptions.md` rules R1230,
R1232). -/
def State.onEeprom (s : State) (combined : Bool) : Prop :=
  s.bit s.cfg.io.ssuTe = true ∧ s.bit s.cfg.io.ssuRe = combined
    ∧ s.selected s.cfg.io.csEeprom s.cfg.csEepromActive = true ∧ s.selected s.cfg.io.csAccel s.cfg.csAccelActive = false
    ∧ (combined = false → s.dcAsserted = false ∧ s.selected s.cfg.io.csLcd s.cfg.csLcdActive = false)

/-- The SSU transmits to the accelerometer and to no other device. -/
def State.onAccel (s : State) (combined : Bool) : Prop :=
  s.bit s.cfg.io.ssuTe = true ∧ s.bit s.cfg.io.ssuRe = combined
    ∧ s.selected s.cfg.io.csAccel s.cfg.csAccelActive = true ∧ s.selected s.cfg.io.csEeprom s.cfg.csEepromActive = false
    ∧ (combined = false → s.dcAsserted = false ∧ s.selected s.cfg.io.csLcd s.cfg.csLcdActive = false)

/-- The SSU transmits to the LCD controller and to no other device, on the data path or the command path. -/
def State.onLcd (s : State) (data : Bool) : Prop :=
  s.bit s.cfg.io.ssuTe = true ∧ s.bit s.cfg.io.ssuRe = false ∧ s.dcAsserted = data
    ∧ (data = false → s.selected s.cfg.io.csLcd s.cfg.csLcdActive = true)
    ∧ s.selected s.cfg.io.csAccel s.cfg.csAccelActive = false ∧ s.selected s.cfg.io.csEeprom s.cfg.csEepromActive = false

/-- `s` with the accelerometer's select, the EEPROM's, or the LCD controller's select and data path, at the inactive level:
the select bits alone change, and no hook runs. -/
def State.offAccel (s : State) : State := s.setBit s.cfg.io.csAccel (!s.cfg.csAccelActive)
def State.offEeprom (s : State) : State := s.setBit s.cfg.io.csEeprom (!s.cfg.csEepromActive)
def State.offLcd (s : State) : State :=
  (s.setBit s.cfg.io.csLcd (!s.cfg.csLcdActive)).setBit s.cfg.io.lcdDc (!s.cfg.lcdDcAsserted)

/-- The SSU is on and holds a byte that is still to be taken (`60_exceptions.md` rules R1231, R1232). -/
def State.ssuPending (s : State) : Prop := s.bit s.cfg.io.ssuTe = true ∧ s.bit s.cfg.io.ssuTdre = false

/-- A device produces a byte for SSU_RDR in a combined cycle: the accelerometer in its data state, the EEPROM at a byte
boundary in a read state (`60_exceptions.md` rules R1241, R1244). -/
def State.accelAnswers (s : State) : Prop :=
  s.selected s.cfg.io.csAccel s.cfg.csAccelActive = true ∧ s.acc.state = .data
def State.eepromAnswers (s : State) : Prop :=
  s.selected s.cfg.io.csEeprom s.cfg.csEepromActive = true ∧ s.eep.progress = 6
    ∧ (s.eep.state = .readData ∨ s.eep.state = .readStatus)

/-- The machine runs: not Faulted, not ended. -/
def State.running (s : State) : Prop := s.fault = none ∧ s.runEnded = false

/-- The machine is about to fetch, once its host inputs are taken. -/
def State.awake (s : State) : Prop := s.running ∧ s.takeInputs.stopRequested = false ∧ s.takeInputs.sleep = false

end Sys2Proof.Machine
end

