-- ==== Sys2Proof/Certificates/Slice0/Obligations.lean ====
section
/-! DEFINITION. The statements. Each docstring names the rule of spec/ that its statement follows. -/

namespace Sys2Proof.Machine

/-! ### Forms that several statements share -/

/-- A load of a byte (`40_data_transfer.md` rule R412): the register, the flags, the read of memory, and pc forward by
`len`, which is 0 but for the self-sizing forms (rule R419). -/
def loadsByte (s : State) (o : Answer) (a : Addr) (rd : Sel) (len : Addr) : Prop :=
  ∃ t, o = .next t ∧ (t.get8 rd).toNat = readsAs s a 1 ∧ onlyByte s t rd ∧ moveFlagsAre (t.get8 rd) s.ccr t.ccr
    ∧ t.pc = s.pc + len ∧ t.draws = s.draws ∧ ReadEffect s t a 1 ∧ s.sameButRead t

/-- A load of a half (rule R413). -/
def loadsHalf (s : State) (o : Answer) (a : Addr) (rd : Sel) (len : Addr) : Prop :=
  ∃ t, o = .next t ∧ (t.get16 rd).toNat = readsAs s a 2 ∧ onlyHalf s t rd ∧ moveFlagsAre (t.get16 rd) s.ccr t.ccr
    ∧ t.pc = s.pc + len ∧ t.draws = s.draws ∧ ReadEffect s t a 2 ∧ s.sameButRead t

/-- A load of a longword (rule R414). -/
def loadsLong (s : State) (o : Answer) (a : Addr) (rd : ErSel) (len : Addr) : Prop :=
  ∃ t, o = .next t ∧ (t.get32 rd).toNat = readsAs s a 4 ∧ onlyLong s t rd ∧ moveFlagsAre (t.get32 rd) s.ccr t.ccr
    ∧ t.pc = s.pc + len ∧ t.draws = s.draws ∧ ReadEffect s t a 4 ∧ s.sameButRead t

/-- A store of `v`, whose bytes are `bs`, at `a` (rules R412-R414). -/
def stores {n : Nat} (s : State) (o : Answer) (a : Addr) (v : BitVec n) (bs : List Byte) (len : Addr) : Prop :=
  ∃ t, o = .next t ∧ WriteEffect s t a bs ∧ moveFlagsAre v s.ccr t.ccr ∧ t.regs = s.regs ∧ t.pc = s.pc + len
    ∧ t.draws = s.draws ∧ s.sameButWritten t

/-- A push of `v` by `@-ERd` (rules R406, R411): the register goes down, and the store is at its new value. -/
def storesDown {n : Nat} (s : State) (o : Answer) (rs rd : BitVec 4) (size : Long) (get : State → BitVec n)
    (bytes : BitVec n → List Byte) : Prop :=
  let s' := s.setX (selIndex rd) (s.x (selIndex rd) - size)
  ∃ t v, o = .next t ∧ (v = get s ∨ (selIndex rs = selIndex rd ∧ v = get s'))
    ∧ WriteEffect s t (eaPreDec s size rd) (bytes v) ∧ moveFlagsAre v s.ccr t.ccr ∧ t.regs = s'.regs ∧ t.pc = s.pc
    ∧ s.sameButWritten t

/-- A read-modify-write of the byte at `a` (`44_bit.md` rule R801): bit `k` becomes `v`; the byte is read, then
written. -/
def modifiesByte (s : State) (o : Answer) (a : Addr) (k : BitVec 3) (v : Bool) : Prop :=
  ∃ t b', o = .next t ∧ bitMade (s.raw a) k v b' ∧ WriteEffect (s.readHook a) t a [b']
    ∧ (∀ x, x ≠ a → ¬ clearedByWrite s.cfg.io a 1 x → ¬ clearedByRead s.cfg.io a 1 x → t.raw x = s.raw x)
    ∧ t.regs = s.regs ∧ t.ccr = s.ccr ∧ t.pc = s.pc ∧ t.draws = s.draws ∧ s.sameButWritten t

/-- A bit of the byte at `a` read into the flags (`44_bit.md` rule R800). -/
def testsByte (s : State) (o : Answer) (a : Addr) (flags : Bool → Ccr) (k : BitVec 3) : Prop :=
  ∃ t, o = .next t ∧ t.ccr = flags ((s.raw a).getLsbD k.toNat) ∧ ReadEffect s t a 1
    ∧ t = { s with ccr := t.ccr, mem := t.mem }

/-- A bit instruction of the group that changes C only (`44_bit.md` rules R806, R807, R810-R815), on its three operand
forms. -/
def changesCarry (s : State) (reg : BitVec 3 → Sel → Instr) (ind : BitVec 3 → ErSel → Instr)
    (abs8 : BitVec 3 → BitVec 8 → Instr) (op : Bool → Bool → Bool) : Prop :=
  (∀ k rd, answersFlags s (exec (reg k rd) s)
      (· = { s.ccr with c := op s.ccr.c ((s.get8 rd).getLsbD k.toNat) }))
    ∧ (∀ k rd, testsByte s (exec (ind k rd) s) (eaInd s rd) (fun b => { s.ccr with c := op s.ccr.c b }) k)
    ∧ ∀ k abs, testsByte s (exec (abs8 k abs) s) (eaAbs8 abs) (fun b => { s.ccr with c := op s.ccr.c b }) k

/-- A conditional branch (`45_branch.md` rules R900, R901). -/
def branches (s : State) (mk : BranchDisp → Instr) (taken : Prop) : Prop :=
  ∀ disp, ∃ a, exec (mk disp) s = .next { s with pc := a } ∧ (taken → isTarget s.pc disp a)
    ∧ (¬ taken → isNext s.pc disp a)

/-- A call to `target` that returns to `ret` (`45_branch.md` rules R919, R920; `20_memory.md` rule R220). `m` is the
state once the target is known. -/
def calls (s m : State) (o : Answer) (target ret : Addr) : Prop :=
  ∃ t, o = .next t ∧ WriteEffect m t (eaPreDec s 2 7) (bytes16 ret) ∧ t.x 7 = s.x 7 - 2
    ∧ (∀ i, i ≠ 7 → t.x i = s.x i) ∧ t.pc = target ∧ t.ccr = s.ccr ∧ t.draws = s.draws ∧ s.sameButWritten t

/-- The CCR loaded from the upper byte of the word at `a` (`46_system.md` rule R1000). -/
def loadsCcrFrom (s : State) (o : Answer) (a : Addr) : Prop :=
  ∃ t, o = .next t ∧ t.ccr.pack.toNat = readsAs s a 2 / 256 ∧ ReadEffect s t a 2
    ∧ t = { s with ccr := t.ccr, mem := t.mem }

/-- The CCR stored in the upper byte of the word at `a`; the lower byte is any (`46_system.md` rule R1001). -/
def storesCcrAt (s : State) (o : Answer) (a : Addr) : Prop :=
  ∃ t low, o = .next t ∧ WriteEffect s t a [s.ccr.pack, low] ∧ t.regs = s.regs ∧ t.ccr = s.ccr ∧ t.pc = s.pc
    ∧ s.sameButWritten t

/-- A byte `tx` that firmware has put into the SSU's transmit register is still to be taken (`60_exceptions.md` rules R1231,
R1233): the register holds it, the empty and end flags are clear, and no other bit of memory has changed. -/
def stillPending (s u : State) (tx : Byte) : Prop :=
  u.raw s.cfg.io.ssuTdr = tx ∧ u.bit s.cfg.io.ssuTdre = false ∧ u.bit s.cfg.io.ssuTend = false
    ∧ s.keepsBut u [s.cfg.io.ssuTdr] [s.cfg.io.ssuTdre, s.cfg.io.ssuTend]

/-- The byte has been taken (`60_exceptions.md` rule R1232): the empty and end flags are set, in combined mode the full flag
too, and no other bit of memory has changed but, where a byte came back in combined mode, SSU_RDR. -/
def taken (s t : State) (tx : Byte) (combined : Bool) (answers : Prop) : Prop :=
  t.raw s.cfg.io.ssuTdr = tx ∧ t.bit s.cfg.io.ssuTdre = true ∧ t.bit s.cfg.io.ssuTend = true
    ∧ (combined = false → s.keepsBut t [s.cfg.io.ssuTdr] [s.cfg.io.ssuTdre, s.cfg.io.ssuTend])
    ∧ (combined = true → t.bit s.cfg.io.ssuRdrf = true
      ∧ (answers → s.keepsBut t [s.cfg.io.ssuTdr, s.cfg.io.ssuRdr]
          [s.cfg.io.ssuTdre, s.cfg.io.ssuTend, s.cfg.io.ssuRdrf])
      ∧ (¬ answers → s.keepsBut t [s.cfg.io.ssuTdr] [s.cfg.io.ssuTdre, s.cfg.io.ssuTend, s.cfg.io.ssuRdrf]))

/-- A unit's part of tick `k` (`60_exceptions.md` rules R1101, R1140): it runs where no unit has faulted and `k` is a multiple of
its period; else nothing happens. -/
def runsIfDue (s t : State) (k period : Nat) (unit : State → State) : Prop :=
  (s.fault = none → k % period = 0 → t = unit s) ∧ (s.fault ≠ none ∨ k % period ≠ 0 → t = s)

end Sys2Proof.Machine

open Sys2Proof Sys2Proof.Machine

/-! ### Reset, registers and memory -/

/-- Rules R1301, R1303, R124, R142: what construction makes of the images, for every draw. That it refuses
parameters that are not valid is the model's choice (log 18). -/
def Obligations.ConstructionLoadsTheImages : Prop :=
  ∀ cfg rom eep d,
    (State.construct cfg rom eep d = none ↔ cfg.valid = false)
    ∧ ∀ s, State.construct cfg rom eep d = some s →
      (∀ a : Addr, s.raw a = rom.getD a.toNat 0x00)
      ∧ (∀ img, eep = some img → ∀ a : Addr, s.eepMem.read eepErased a.toNat = img.getD a.toNat 0x00)
      ∧ (eep = none → ∀ a : Addr, s.eepMem.read eepErased a.toNat = 0xFF)
      ∧ s.pc.toNat = 256 * (rom.getD 0 0x00).toNat + (rom.getD 1 0x00).toNat
      ∧ s.ccr.i = true ∧ s.sleep = false ∧ s.instrCount = 0 ∧ s.cycleIndex = 0 ∧ s.rtcInit = false ∧ s.rtcQuarter = 0
      ∧ s.tb1Pre = 0 ∧ s.twPre = 0 ∧ s.tb1Load = 0x00 ∧ s.eep = ⟨.waiting, .read, 0, 0, 0, 0x00⟩
      ∧ s.acc = ⟨.waiting, 0, 0⟩ ∧ s.accMem = cfg.accelInit ∧ s.lcd = ⟨.waiting, 0, 0, 0, 0, s.lcd.contrast⟩
      ∧ s.irRx = [] ∧ s.fault = none ∧ s.out = [] ∧ s.stopRequested = false ∧ s.inv = true

/-- `State.reset` is a machine that construction makes: from the empty image and the model's reference parameters (logs 1
to 4 and 7: the values it names are the model's choice). It satisfies the invariant. -/
def Obligations.ResetIsConstructedAndGood : Prop :=
  (∃ d, State.construct Config.reference [] none d = some State.reset) ∧ State.reset.inv = true
    ∧ State.reset.cfg.valid = true

/-- Rules R101-R105: the views of a register and how a write of one shows in the others. -/
def Obligations.RegisterViewsAlias : Prop :=
  ∀ s : State,
    (∀ r q v, (s.set8 r v).get8 q = if q = r then v else s.get8 q)
    ∧ (∀ r q v, q.msb = true → (s.set8 r v).get16 q = s.get16 q)
    ∧ (∀ r q v, (s.set16 r v).get16 q = if q = r then v else s.get16 q)
    ∧ (∀ r v i, (s.set32 r v).x i = if i = selIndex r then v else s.x i)
    ∧ (∀ i : BitVec 3, (s.get16 (0#1 ++ i)).toNat = 256 * (s.get8 (0#1 ++ i)).toNat + (s.get8 (1#1 ++ i)).toNat)
    ∧ (∀ i : BitVec 3, (s.get32 (0#1 ++ i)).toNat = 65536 * (s.get16 (1#1 ++ i)).toNat + (s.get16 (0#1 ++ i)).toNat)
    ∧ ∀ r : Sel, (selIndex r).val = r.toNat % 8

/-- Rules R120, R121: the CCR's bits and its round trip. -/
def Obligations.CcrPacksItsFlags : Prop :=
  (∀ b : Byte, (Ccr.ofByte b).pack = b)
    ∧ ∀ f : Ccr, f.pack.getLsbD 7 = f.i ∧ f.pack.getLsbD 6 = f.ui ∧ f.pack.getLsbD 5 = f.h ∧ f.pack.getLsbD 4 = f.u
      ∧ f.pack.getLsbD 3 = f.n ∧ f.pack.getLsbD 2 = f.z ∧ f.pack.getLsbD 1 = f.v ∧ f.pack.getLsbD 0 = f.c

/-- Rules R204, R210, R211, R213, R1203, R1237: what firmware's loads and stores do, hooks and all; registers,
pc, flags, draws and everything else stay. -/
def Obligations.FirmwareAccesses : Prop :=
  ∀ (s : State) (a : Addr),
    (∀ v, WriteEffect s (s.store8 a v) a [v] ∧ s.onlyStored (s.store8 a v))
    ∧ (∀ v, WriteEffect s (s.store16 a v) a (bytes16 v) ∧ s.onlyStored (s.store16 a v))
    ∧ (∀ v, WriteEffect s (s.store32 a v) a (bytes32 v) ∧ s.onlyStored (s.store32 a v))
    ∧ ((s.load8 a).1.toNat = readsAs s a 1 ∧ ReadEffect s (s.load8 a).2 a 1 ∧ s.onlyLoaded (s.load8 a).2)
    ∧ ((s.load16 a).1.toNat = readsAs s a 2 ∧ ReadEffect s (s.load16 a).2 a 2 ∧ s.onlyLoaded (s.load16 a).2)
    ∧ ((s.load32 a).1.toNat = readsAs s a 4 ∧ ReadEffect s (s.load32 a).2 a 4 ∧ s.onlyLoaded (s.load32 a).2)
    ∧ ∀ v : Long, bigEndian (bytes32 v) = v.toNat

/-- Rule R205: a wide store read back at the other widths, where no byte of it is a data register of the SSU or of SCI3
(`FirmwareAccesses` says what those do). -/
def Obligations.MixedWidthsAgree : Prop :=
  ∀ (s : State) (a : Addr),
    (noDataRegister s.cfg.io a 2 → ∀ v : Half,
      ((s.store16 a v).load8 a).1 = v.extractLsb' 8 8 ∧ ((s.store16 a v).load8 (a + 1)).1 = v.extractLsb' 0 8
      ∧ ((s.store16 a v).load16 a).1 = v)
    ∧ (noDataRegister s.cfg.io a 4 → ∀ v : Long,
      ((s.store32 a v).load16 a).1 = v.extractLsb' 16 16 ∧ ((s.store32 a v).load16 (a + 2)).1 = v.extractLsb' 0 16
      ∧ ((s.store32 a v).load32 a).1 = v)

/-- Rules R220, R221: a push and a pop, where the stack's two bytes are no data registers. -/
def Obligations.StackRoundTrip : Prop :=
  ∀ (s : State) (v : Half), noDataRegister s.cfg.io (eaPreDec s 2 7) 2 →
    (s.push16 v).x 7 = s.x 7 - 2 ∧ (s.push16 v).raw16 (eaPreDec s 2 7) = v
    ∧ (s.push16 v).pop16.1 = v ∧ ∀ i, (s.push16 v).pop16.2.x i = s.x i

/-! ### Decoding -/

/-- Words written out from the encodings of `30_encoding.md` rule R350 decode to their instructions. -/
def Obligations.SampleBytesDecode : Prop :=
  decode [0xF8, 0x42] = .ok (.movBImm 0x42 8)
    ∧ decode [0x78, 0x10, 0x6A, 0x28, 0x00, 0xFF, 0xFF, 0xFF] = .ok (.movBDisp24 0xFFFFFF 1 8)
    ∧ decode [0x01, 0xD0, 0x53, 0x10] = .ok (.divxsW 1 0)
    ∧ decode [0x17, 0x32] = .ok (.notL 2)
    ∧ decode [0x13, 0x10] = .ok (.rotxrW 0)
    ∧ decode [0x7F, 0xD4, 0x70, 0x70] = .ok (.bsetImmAbs8 7 0xD4)
    ∧ decode [0x58, 0x60, 0xFF, 0xFC] = .ok (.bne (.d16 0xFFFC))
    ∧ decode [0x01, 0x40, 0x6D, 0x90] = .ok (.stcWToPreDec 1)

/-- Rules R302-R310: every well-formed instruction is read back from its own encoding, whatever bytes follow. -/
def Obligations.DecodeOfEncode : Prop :=
  ∀ (i : Instr) (rest : List Byte), i.wellFormed = true → decode (encode i ++ rest) = .ok i

/-- Rules R321, R323, R330: bytes decode to one instruction only, whose encoding they are; no bit of them is dropped. -/
def Obligations.DecodedBytesAreTheEncoding : Prop :=
  ∀ (bs : List Byte) (i : Instr), decode bs = .ok i → i.wellFormed = true ∧ bs.take i.length = encode i

/-! ### Data transfer -/

/-- Rules R412-R414: MOV between registers and from an immediate. -/
def Obligations.MovRegisterAndImmediate : Prop :=
  ∀ s : State,
    (∀ rs rd, answersByte s (exec (.movBReg rs rd) s) rd (s.get8 rs) (moveFlagsAre (s.get8 rs) s.ccr))
    ∧ (∀ imm rd, answersByte s (exec (.movBImm imm rd) s) rd imm (moveFlagsAre imm s.ccr))
    ∧ (∀ rs rd, answersHalf s (exec (.movWReg rs rd) s) rd (s.get16 rs) (moveFlagsAre (s.get16 rs) s.ccr))
    ∧ (∀ imm rd, answersHalf s (exec (.movWImm imm rd) s) rd imm (moveFlagsAre imm s.ccr))
    ∧ (∀ rs rd, answersLong s (exec (.movLReg rs rd) s) rd (s.get32 rs) (moveFlagsAre (s.get32 rs) s.ccr))
    ∧ ∀ imm rd, answersLong s (exec (.movLImm imm rd) s) rd imm (moveFlagsAre imm s.ccr)

/-- Rules R412-R414 with R402-R404, R407-R409, R419: MOV from memory. -/
def Obligations.MovLoads : Prop :=
  ∀ s : State,
    (∀ rs rd, loadsByte s (exec (.movBInd rs rd) s) (eaInd s rs) rd 0)
    ∧ (∀ disp rs rd, loadsByte s (exec (.movBDisp16 disp rs rd) s) (eaDisp16 s disp rs) rd 0)
    ∧ (∀ disp rs rd, loadsByte s (exec (.movBDisp24 disp rs rd) s) (eaDisp24 s disp rs) rd 0)
    ∧ (∀ abs rd, loadsByte s (exec (.movBAbs8 abs rd) s) (eaAbs8 abs) rd 0)
    ∧ (∀ abs rd, loadsByte s (exec (.movBAbs16 abs rd) s) (eaAbs16 abs) rd 4)
    ∧ (∀ abs rd, loadsByte s (exec (.movBAbs24 abs rd) s) (eaAbs24 abs) rd 6)
    ∧ (∀ rs rd, loadsHalf s (exec (.movWInd rs rd) s) (eaInd s rs) rd 0)
    ∧ (∀ disp rs rd, loadsHalf s (exec (.movWDisp16 disp rs rd) s) (eaDisp16 s disp rs) rd 0)
    ∧ (∀ disp rs rd, loadsHalf s (exec (.movWDisp24 disp rs rd) s) (eaDisp24 s disp rs) rd 0)
    ∧ (∀ abs rd, loadsHalf s (exec (.movWAbs16 abs rd) s) (eaAbs16 abs) rd 4)
    ∧ (∀ abs rd, loadsHalf s (exec (.movWAbs24 abs rd) s) (eaAbs24 abs) rd 6)
    ∧ (∀ rs rd, loadsLong s (exec (.movLInd rs rd) s) (eaInd s rs) rd 0)
    ∧ (∀ disp rs rd, loadsLong s (exec (.movLDisp16 disp rs rd) s) (eaDisp16 s disp rs) rd 0)
    ∧ (∀ disp rs rd, loadsLong s (exec (.movLDisp24 disp rs rd) s) (eaDisp24 s disp rs) rd 0)
    ∧ (∀ abs rd, loadsLong s (exec (.movLAbs16 abs rd) s) (eaAbs16 abs) rd 0)
    ∧ ∀ abs rd, loadsLong s (exec (.movLAbs24 abs rd) s) (eaAbs24 abs) rd 0

/-- Rules R412-R414 with R402-R404, R407-R409, R419: MOV to memory. -/
def Obligations.MovStores : Prop :=
  ∀ s : State,
    (∀ rs rd, stores s (exec (.movBToInd rs rd) s) (eaInd s rd) (s.get8 rs) [s.get8 rs] 0)
    ∧ (∀ rs disp rd, stores s (exec (.movBToDisp16 rs disp rd) s) (eaDisp16 s disp rd) (s.get8 rs) [s.get8 rs] 0)
    ∧ (∀ rs disp rd, stores s (exec (.movBToDisp24 rs disp rd) s) (eaDisp24 s disp rd) (s.get8 rs) [s.get8 rs] 0)
    ∧ (∀ rs abs, stores s (exec (.movBToAbs8 rs abs) s) (eaAbs8 abs) (s.get8 rs) [s.get8 rs] 0)
    ∧ (∀ rs abs, stores s (exec (.movBToAbs16 rs abs) s) (eaAbs16 abs) (s.get8 rs) [s.get8 rs] 4)
    ∧ (∀ rs abs, stores s (exec (.movBToAbs24 rs abs) s) (eaAbs24 abs) (s.get8 rs) [s.get8 rs] 6)
    ∧ (∀ rs rd, stores s (exec (.movWToInd rs rd) s) (eaInd s rd) (s.get16 rs) (bytes16 (s.get16 rs)) 0)
    ∧ (∀ rs disp rd,
        stores s (exec (.movWToDisp16 rs disp rd) s) (eaDisp16 s disp rd) (s.get16 rs) (bytes16 (s.get16 rs)) 0)
    ∧ (∀ rs disp rd,
        stores s (exec (.movWToDisp24 rs disp rd) s) (eaDisp24 s disp rd) (s.get16 rs) (bytes16 (s.get16 rs)) 0)
    ∧ (∀ rs abs, stores s (exec (.movWToAbs16 rs abs) s) (eaAbs16 abs) (s.get16 rs) (bytes16 (s.get16 rs)) 4)
    ∧ (∀ rs abs, stores s (exec (.movWToAbs24 rs abs) s) (eaAbs24 abs) (s.get16 rs) (bytes16 (s.get16 rs)) 6)
    ∧ (∀ rs rd, stores s (exec (.movLToInd rs rd) s) (eaInd s rd) (s.get32 rs) (bytes32 (s.get32 rs)) 0)
    ∧ (∀ rs disp rd,
        stores s (exec (.movLToDisp16 rs disp rd) s) (eaDisp16 s disp rd) (s.get32 rs) (bytes32 (s.get32 rs)) 0)
    ∧ (∀ rs disp rd,
        stores s (exec (.movLToDisp24 rs disp rd) s) (eaDisp24 s disp rd) (s.get32 rs) (bytes32 (s.get32 rs)) 0)
    ∧ (∀ rs abs, stores s (exec (.movLToAbs16 rs abs) s) (eaAbs16 abs) (s.get32 rs) (bytes32 (s.get32 rs)) 0)
    ∧ ∀ rs abs, stores s (exec (.movLToAbs24 rs abs) s) (eaAbs24 abs) (s.get32 rs) (bytes32 (s.get32 rs)) 0

/-- Rules R405, R411: MOV with post-increment. Where the data register is part of the address register, the final
register is the loaded value written over the incremented address, or the incremented address alone: either. -/
def Obligations.MovPostIncrement : Prop :=
  ∀ (s : State) (rs : ErSel),
    (∀ rd, ∃ t v, exec (.movBPostInc rs rd) s = .next t ∧ v.toNat = readsAs s (eaInd s rs) 1
      ∧ ((t.get8 rd = v ∧ onlyByte (s.setX (selIndex rs) (s.x (selIndex rs) + 1)) t rd)
        ∨ (selIndex rs = selIndex rd ∧ t.regs = (s.setX (selIndex rs) (s.x (selIndex rs) + 1)).regs))
      ∧ moveFlagsAre v s.ccr t.ccr ∧ t.pc = s.pc ∧ ReadEffect s t (eaInd s rs) 1 ∧ s.sameButRead t)
    ∧ (∀ rd, ∃ t v, exec (.movWPostInc rs rd) s = .next t ∧ v.toNat = readsAs s (eaInd s rs) 2
      ∧ ((t.get16 rd = v ∧ onlyHalf (s.setX (selIndex rs) (s.x (selIndex rs) + 2)) t rd)
        ∨ (selIndex rs = selIndex rd ∧ t.regs = (s.setX (selIndex rs) (s.x (selIndex rs) + 2)).regs))
      ∧ moveFlagsAre v s.ccr t.ccr ∧ t.pc = s.pc ∧ ReadEffect s t (eaInd s rs) 2 ∧ s.sameButRead t)
    ∧ ∀ rd, ∃ t v, exec (.movLPostInc rs rd) s = .next t ∧ v.toNat = readsAs s (eaInd s rs) 4
      ∧ ((t.get32 rd = v ∧ onlyLong (s.setX (selIndex rs) (s.x (selIndex rs) + 4)) t rd)
        ∨ (selIndex rs = selIndex rd ∧ t.regs = (s.setX (selIndex rs) (s.x (selIndex rs) + 4)).regs))
      ∧ moveFlagsAre v s.ccr t.ccr ∧ t.pc = s.pc ∧ ReadEffect s t (eaInd s rs) 4 ∧ s.sameButRead t

/-- Rules R406, R411: MOV with pre-decrement. Where the data register is part of the address register, the value stored is
the one before the decrement or the one after: either. -/
def Obligations.MovPreDecrement : Prop :=
  ∀ s : State,
    (∀ rs rd, storesDown s (exec (.movBToPreDec rs rd) s) rs rd 1 (·.get8 rs) (fun v => [v]))
    ∧ (∀ rs rd, storesDown s (exec (.movWToPreDec rs rd) s) rs rd 2 (·.get16 rs) bytes16)
    ∧ ∀ rs rd, storesDown s (exec (.movLToPreDec rs rd) s) rs rd 4 (·.get32 rs) bytes32

/-- Rules R416, R417: the block moves: the counter, the pointers, memory copied forward byte by byte, and what the
hooks of the copied bytes do. -/
def Obligations.BlockMoves : Prop :=
  ∀ (s : State) (i : Instr) (n : Nat),
    (i = .eepmovB ∧ n = (s.get8 0xC).toNat) ∨ (i = .eepmovW ∧ n = (s.get16 4).toNat) →
    ∃ t, exec i s = .next t
      ∧ (i = .eepmovB → t.get8 0xC = 0 ∧ t.get8 4 = s.get8 4) ∧ (i = .eepmovW → t.get16 4 = 0)
      ∧ t.get16 0xC = s.get16 0xC
      ∧ t.x 5 = s.x 5 + BitVec.ofNat 32 n ∧ t.x 6 = s.x 6 + BitVec.ofNat 32 n
      ∧ (∀ j : Fin 8, j ≠ 4 → j ≠ 5 → j ≠ 6 → t.x j = s.x j)
      ∧ (∀ x, t.raw x = Image.copy s.cfg.io s.raw (eaInd s 5) (eaInd s 6) n x)
      ∧ (∀ x, ¬ inRange (eaInd s 6) n x → ¬ clearedByWrite s.cfg.io (eaInd s 6) n x
          → ¬ clearedByRead s.cfg.io (eaInd s 5) n x → t.raw x = s.raw x)
      ∧ HookEffect s t (eaInd s 6) (Image.copied s.cfg.io s.raw (eaInd s 5) (eaInd s 6) n)
      ∧ t.ccr = s.ccr ∧ t.pc = s.pc ∧ t.draws = s.draws ∧ s.sameButWritten t

/-! ### Arithmetic -/

/-- Rules R510-R512 with R133: ADD, its flags as facts of arithmetic. -/
def Obligations.AddResults : Prop :=
  ∀ s : State,
    (∀ imm rd, answersByte s (exec (.addBImm imm rd) s) rd (s.get8 rd + imm) (addFlagsAre (s.get8 rd) imm s.ccr))
    ∧ (∀ rs rd, answersByte s (exec (.addBReg rs rd) s) rd (s.get8 rd + s.get8 rs)
        (addFlagsAre (s.get8 rd) (s.get8 rs) s.ccr))
    ∧ (∀ imm rd, answersHalf s (exec (.addWImm imm rd) s) rd (s.get16 rd + imm) (addFlagsAre (s.get16 rd) imm s.ccr))
    ∧ (∀ rs rd, answersHalf s (exec (.addWReg rs rd) s) rd (s.get16 rd + s.get16 rs)
        (addFlagsAre (s.get16 rd) (s.get16 rs) s.ccr))
    ∧ (∀ imm rd, answersLong s (exec (.addLImm imm rd) s) rd (s.get32 rd + imm) (addFlagsAre (s.get32 rd) imm s.ccr))
    ∧ ∀ rs rd, answersLong s (exec (.addLReg rs rd) s) rd (s.get32 rd + s.get32 rs)
        (addFlagsAre (s.get32 rd) (s.get32 rs) s.ccr)

/-- Rules R519-R521, R528-R533 with R134, R509: SUB and NEG, and CMP, which writes flags and nothing else. -/
def Obligations.SubNegCmpResults : Prop :=
  ∀ s : State,
    (∀ rs rd, answersByte s (exec (.subBReg rs rd) s) rd (s.get8 rd - s.get8 rs)
        (subFlagsAre (s.get8 rd) (s.get8 rs) s.ccr))
    ∧ (∀ imm rd, answersHalf s (exec (.subWImm imm rd) s) rd (s.get16 rd - imm) (subFlagsAre (s.get16 rd) imm s.ccr))
    ∧ (∀ rs rd, answersHalf s (exec (.subWReg rs rd) s) rd (s.get16 rd - s.get16 rs)
        (subFlagsAre (s.get16 rd) (s.get16 rs) s.ccr))
    ∧ (∀ imm rd, answersLong s (exec (.subLImm imm rd) s) rd (s.get32 rd - imm) (subFlagsAre (s.get32 rd) imm s.ccr))
    ∧ (∀ rs rd, answersLong s (exec (.subLReg rs rd) s) rd (s.get32 rd - s.get32 rs)
        (subFlagsAre (s.get32 rd) (s.get32 rs) s.ccr))
    ∧ (∀ rd, answersByte s (exec (.negB rd) s) rd (0 - s.get8 rd) (subFlagsAre 0 (s.get8 rd) s.ccr))
    ∧ (∀ rd, answersHalf s (exec (.negW rd) s) rd (0 - s.get16 rd) (subFlagsAre 0 (s.get16 rd) s.ccr))
    ∧ (∀ rd, answersLong s (exec (.negL rd) s) rd (0 - s.get32 rd) (subFlagsAre 0 (s.get32 rd) s.ccr))
    ∧ (∀ imm rd, answersFlags s (exec (.cmpBImm imm rd) s) (subFlagsAre (s.get8 rd) imm s.ccr))
    ∧ (∀ rs rd, answersFlags s (exec (.cmpBReg rs rd) s) (subFlagsAre (s.get8 rd) (s.get8 rs) s.ccr))
    ∧ (∀ imm rd, answersFlags s (exec (.cmpWImm imm rd) s) (subFlagsAre (s.get16 rd) imm s.ccr))
    ∧ (∀ rs rd, answersFlags s (exec (.cmpWReg rs rd) s) (subFlagsAre (s.get16 rd) (s.get16 rs) s.ccr))
    ∧ (∀ imm rd, answersFlags s (exec (.cmpLImm imm rd) s) (subFlagsAre (s.get32 rd) imm s.ccr))
    ∧ ∀ rs rd, answersFlags s (exec (.cmpLReg rs rd) s) (subFlagsAre (s.get32 rd) (s.get32 rs) s.ccr)

/-- Rules R506, R513, R522: ADDX and SUBX, with the incoming C (`k` is it as a number) and the sticky Z. -/
def Obligations.AddxSubxResults : Prop :=
  ∀ (s : State) (i : Instr) (rd : Sel) (b : Byte) (k : Nat),
    k = (if s.ccr.c then 1 else 0) →
    ((i = .addxImm b rd ∨ ∃ rs, i = .addxReg rs rd ∧ b = s.get8 rs) →
      answersByte s (exec i s) rd (BitVec.ofNat 8 ((s.get8 rd).toNat + b.toNat + k)) fun g =>
        (g.c = true ↔ 256 ≤ (s.get8 rd).toNat + b.toNat + k)
        ∧ (g.h = true ↔ 16 ≤ (s.get8 rd).toNat % 16 + b.toNat % 16 + k)
        ∧ (g.v = true ↔ outOfRange 8 ((s.get8 rd).toInt + b.toInt + k))
        ∧ (g.n = true ↔ 128 ≤ ((s.get8 rd).toNat + b.toNat + k) % 256)
        ∧ (g.z = true ↔ s.ccr.z = true ∧ ((s.get8 rd).toNat + b.toNat + k) % 256 = 0)
        ∧ g.i = s.ccr.i ∧ g.ui = s.ccr.ui ∧ g.u = s.ccr.u)
    ∧ ((i = .subxImm b rd ∨ ∃ rs, i = .subxReg rs rd ∧ b = s.get8 rs) →
      answersByte s (exec i s) rd (BitVec.ofInt 8 ((s.get8 rd).toNat - b.toNat - k)) fun g =>
        (g.c = true ↔ (s.get8 rd).toNat < b.toNat + k)
        ∧ (g.h = true ↔ (s.get8 rd).toNat % 16 < b.toNat % 16 + k)
        ∧ (g.v = true ↔ outOfRange 8 ((s.get8 rd).toInt - b.toInt - k))
        ∧ (g.n = true ↔ 128 ≤ ((s.get8 rd).toNat - b.toNat - k : Int) % 256)
        ∧ (g.z = true ↔ s.ccr.z = true ∧ ((s.get8 rd).toNat - b.toNat - k : Int) % 256 = 0)
        ∧ g.i = s.ccr.i ∧ g.ui = s.ccr.ui ∧ g.u = s.ccr.u)

/-- Rules R508, R514-R517, R523-R526 with R131, R132: ADDS and SUBS, which change no flag, and INC and DEC. -/
def Obligations.ConstantStepResults : Prop :=
  ∀ s : State,
    (∀ rd, answersLong s (exec (.adds1 rd) s) rd (s.get32 rd + 1) (· = s.ccr))
    ∧ (∀ rd, answersLong s (exec (.adds2 rd) s) rd (s.get32 rd + 2) (· = s.ccr))
    ∧ (∀ rd, answersLong s (exec (.adds4 rd) s) rd (s.get32 rd + 4) (· = s.ccr))
    ∧ (∀ rd, answersLong s (exec (.subs1 rd) s) rd (s.get32 rd - 1) (· = s.ccr))
    ∧ (∀ rd, answersLong s (exec (.subs2 rd) s) rd (s.get32 rd - 2) (· = s.ccr))
    ∧ (∀ rd, answersLong s (exec (.subs4 rd) s) rd (s.get32 rd - 4) (· = s.ccr))
    ∧ (∀ rd, answersByte s (exec (.incB rd) s) rd (s.get8 rd + 1) (stepFlagsAre (s.get8 rd) 1 s.ccr))
    ∧ (∀ rd, answersHalf s (exec (.incW1 rd) s) rd (s.get16 rd + 1) (stepFlagsAre (s.get16 rd) 1 s.ccr))
    ∧ (∀ rd, answersHalf s (exec (.incW2 rd) s) rd (s.get16 rd + 2) (stepFlagsAre (s.get16 rd) 2 s.ccr))
    ∧ (∀ rd, answersLong s (exec (.incL1 rd) s) rd (s.get32 rd + 1) (stepFlagsAre (s.get32 rd) 1 s.ccr))
    ∧ (∀ rd, answersLong s (exec (.incL2 rd) s) rd (s.get32 rd + 2) (stepFlagsAre (s.get32 rd) 2 s.ccr))
    ∧ (∀ rd, answersByte s (exec (.decB rd) s) rd (s.get8 rd - 1) (stepFlagsAre (s.get8 rd) (-1) s.ccr))
    ∧ (∀ rd, answersHalf s (exec (.decW1 rd) s) rd (s.get16 rd - 1) (stepFlagsAre (s.get16 rd) (-1) s.ccr))
    ∧ (∀ rd, answersHalf s (exec (.decW2 rd) s) rd (s.get16 rd - 2) (stepFlagsAre (s.get16 rd) (-2) s.ccr))
    ∧ (∀ rd, answersLong s (exec (.decL1 rd) s) rd (s.get32 rd - 1) (stepFlagsAre (s.get32 rd) (-1) s.ccr))
    ∧ ∀ rd, answersLong s (exec (.decL2 rd) s) rd (s.get32 rd - 2) (stepFlagsAre (s.get32 rd) (-2) s.ccr)

/-- Rules R518, R527: DAA and DAS. `row` says that a row of the rule's table covers the input and what it adds; outside the
tables the result and C are free, and so are H and V always. -/
def Obligations.DecimalAdjustResults : Prop :=
  ∀ (s : State) (i : Instr) (rd : Sel) (hi lo : Nat),
    hi = (s.get8 rd).toNat / 16 → lo = (s.get8 rd).toNat % 16 → (i = .daa rd ∨ i = .das rd) →
    ∃ t, exec i s = .next t ∧ onlyByte s t rd
      ∧ (t.ccr.n = true ↔ (t.get8 rd).toInt < 0) ∧ (t.ccr.z = true ↔ (t.get8 rd).toNat = 0)
      ∧ t.ccr.i = s.ccr.i ∧ t.ccr.ui = s.ccr.ui ∧ t.ccr.u = s.ccr.u
      ∧ t = { s with regs := t.regs, ccr := t.ccr, draws := t.draws }
      ∧ (let row := fun (c h : Bool) (h₀ h₁ l₀ l₁ : Nat) (add : Byte) (cOut : Bool) =>
          s.ccr.c = c → s.ccr.h = h → h₀ ≤ hi → hi ≤ h₁ → l₀ ≤ lo → lo ≤ l₁ →
            t.get8 rd = s.get8 rd + add ∧ t.ccr.c = cOut
        (i = .daa rd →
          row false false 0 9 0 9 0x00 false ∧ row false false 0 8 10 15 0x06 false
          ∧ row false true 0 9 0 3 0x06 false ∧ row false false 10 15 0 9 0x60 true
          ∧ row false false 9 15 10 15 0x66 true ∧ row false true 10 15 0 3 0x66 true
          ∧ row true false 0 2 0 9 0x60 true ∧ row true false 0 2 10 15 0x66 true ∧ row true true 0 3 0 3 0x66 true)
        ∧ (i = .das rd →
          row false false 0 9 0 9 0x00 false ∧ row false true 0 8 6 15 0xFA false
          ∧ row true false 7 15 0 9 0xA0 true ∧ row true true 6 15 6 15 0x9A true))

/-- What rules R518 and R527 are for: ADD.B then DAA adds two-digit decimal numbers, and SUB.B then DAS subtracts them.
`t` is the state that the add or the subtract answers. -/
def Obligations.DecimalAdjustIsDecimalArithmetic : Prop :=
  ∀ (s : State) (rs rd : Sel) (x y : Nat), x < 100 → y < 100 → s.get8 rd = bcd x → s.get8 rs = bcd y →
    (∃ t u, exec (.addBReg rs rd) s = .next t ∧ exec (.daa rd) t = .next u
      ∧ u.get8 rd = bcd ((x + y) % 100) ∧ (u.ccr.c = true ↔ 100 ≤ x + y))
    ∧ ∃ t u, exec (.subBReg rs rd) s = .next t ∧ exec (.das rd) t = .next u
      ∧ u.get8 rd = bcd ((x + 100 - y) % 100) ∧ (u.ccr.c = true ↔ x < y)

/-- Rules R504, R505, R534-R537: the products are exact; MULXU changes no flag. -/
def Obligations.MultiplyResults : Prop :=
  ∀ (s : State) (rs : Sel),
    (∀ rd, ∃ v, v.toNat = (s.get16 rd).toNat % 256 * (s.get8 rs).toNat
      ∧ answersHalf s (exec (.mulxuB rs rd) s) rd v (· = s.ccr))
    ∧ (∀ rd, ∃ v, v.toNat = (s.get32 rd).toNat % 65536 * (s.get16 rs).toNat
      ∧ answersLong s (exec (.mulxuW rs rd) s) rd v (· = s.ccr))
    ∧ (∀ rd, ∃ v, v.toInt = ((s.get16 rd).extractLsb' 0 8).toInt * (s.get8 rs).toInt
      ∧ answersHalf s (exec (.mulxsB rs rd) s) rd v
        (· = { s.ccr with n := decide (v.toInt < 0), z := decide (v.toInt = 0) }))
    ∧ ∀ rd, ∃ v, v.toInt = ((s.get32 rd).extractLsb' 0 16).toInt * (s.get16 rs).toInt
      ∧ answersLong s (exec (.mulxsW rs rd) s) rd v
        (· = { s.ccr with n := decide (v.toInt < 0), z := decide (v.toInt = 0) })

/-- Rules R503, R505, R538, R539: DIVXU. A zero divisor, and a quotient that does not fit, leave the destination free. -/
def Obligations.DivideUnsignedResults : Prop :=
  ∀ (s : State) (rs : Sel),
    (∀ rd, ∃ t, exec (.divxuB rs rd) s = .next t ∧ onlyHalf s t rd
      ∧ t.ccr = { s.ccr with n := decide (128 ≤ (s.get8 rs).toNat), z := decide ((s.get8 rs).toNat = 0) }
      ∧ t = { s with regs := t.regs, ccr := t.ccr, draws := t.draws }
      ∧ ((s.get8 rs).toNat ≠ 0 → (s.get16 rd).toNat / (s.get8 rs).toNat ≤ 255 →
          (t.get16 rd).toNat
            = 256 * ((s.get16 rd).toNat % (s.get8 rs).toNat) + (s.get16 rd).toNat / (s.get8 rs).toNat
          ∧ t.draws = s.draws))
    ∧ ∀ rd, ∃ t, exec (.divxuW rs rd) s = .next t ∧ onlyLong s t rd
      ∧ t.ccr = { s.ccr with n := decide (32768 ≤ (s.get16 rs).toNat), z := decide ((s.get16 rs).toNat = 0) }
      ∧ t = { s with regs := t.regs, ccr := t.ccr, draws := t.draws }
      ∧ ((s.get16 rs).toNat ≠ 0 → (s.get32 rd).toNat / (s.get16 rs).toNat ≤ 65535 →
          (t.get32 rd).toNat
            = 65536 * ((s.get32 rd).toNat % (s.get16 rs).toNat) + (s.get32 rd).toNat / (s.get16 rs).toNat
          ∧ t.draws = s.draws)

/-- Rules R503, R540, R541: DIVXS, the quotient truncated toward zero and the remainder with the dividend's sign. N is free
where the quotient is 0 and the operands' signs differ. -/
def Obligations.DivideSignedResults : Prop :=
  ∀ (s : State) (rs : Sel),
    (∀ rd, ∃ t, exec (.divxsB rs rd) s = .next t ∧ onlyHalf s t rd
      ∧ t.ccr = { s.ccr with n := t.ccr.n, z := decide ((s.get8 rs).toInt = 0) }
      ∧ t = { s with regs := t.regs, ccr := t.ccr, draws := t.draws }
      ∧ ((s.get8 rs).toInt ≠ 0 → -128 ≤ (s.get16 rd).toInt.tdiv (s.get8 rs).toInt →
          (s.get16 rd).toInt.tdiv (s.get8 rs).toInt ≤ 127 →
          ((t.get16 rd).extractLsb' 0 8).toInt = (s.get16 rd).toInt.tdiv (s.get8 rs).toInt
          ∧ ((t.get16 rd).extractLsb' 8 8).toInt = (s.get16 rd).toInt.tmod (s.get8 rs).toInt
          ∧ ((s.get16 rd).toInt.tdiv (s.get8 rs).toInt ≠ 0 ∨ ((s.get16 rd).toInt < 0 ↔ (s.get8 rs).toInt < 0) →
              (t.ccr.n = true ↔ (s.get16 rd).toInt.tdiv (s.get8 rs).toInt < 0))))
    ∧ ∀ rd, ∃ t, exec (.divxsW rs rd) s = .next t ∧ onlyLong s t rd
      ∧ t.ccr = { s.ccr with n := t.ccr.n, z := decide ((s.get16 rs).toInt = 0) }
      ∧ t = { s with regs := t.regs, ccr := t.ccr, draws := t.draws }
      ∧ ((s.get16 rs).toInt ≠ 0 → -32768 ≤ (s.get32 rd).toInt.tdiv (s.get16 rs).toInt →
          (s.get32 rd).toInt.tdiv (s.get16 rs).toInt ≤ 32767 →
          ((t.get32 rd).extractLsb' 0 16).toInt = (s.get32 rd).toInt.tdiv (s.get16 rs).toInt
          ∧ ((t.get32 rd).extractLsb' 16 16).toInt = (s.get32 rd).toInt.tmod (s.get16 rs).toInt
          ∧ ((s.get32 rd).toInt.tdiv (s.get16 rs).toInt ≠ 0 ∨ ((s.get32 rd).toInt < 0 ↔ (s.get16 rs).toInt < 0) →
              (t.ccr.n = true ↔ (s.get32 rd).toInt.tdiv (s.get16 rs).toInt < 0)))

/-- Rules R542-R545: EXTU and EXTS. -/
def Obligations.ExtendResults : Prop :=
  ∀ s : State,
    (∀ rd, ∃ v, v.toNat = (s.get16 rd).toNat % 256 ∧ answersHalf s (exec (.extuW rd) s) rd v
      (· = { s.ccr with n := false, z := decide (v.toNat = 0), v := false }))
    ∧ (∀ rd, ∃ v, v.toNat = (s.get32 rd).toNat % 65536 ∧ answersLong s (exec (.extuL rd) s) rd v
      (· = { s.ccr with n := false, z := decide (v.toNat = 0), v := false }))
    ∧ (∀ rd, ∃ v, v.toInt = ((s.get16 rd).extractLsb' 0 8).toInt
      ∧ answersHalf s (exec (.extsW rd) s) rd v (moveFlagsAre v s.ccr))
    ∧ ∀ rd, ∃ v, v.toInt = ((s.get32 rd).extractLsb' 0 16).toInt
      ∧ answersLong s (exec (.extsL rd) s) rd v (moveFlagsAre v s.ccr)

/-! ### Logic and shifts -/

/-- Rules R600-R612: AND, OR, XOR and NOT. -/
def Obligations.LogicResults : Prop :=
  ∀ s : State,
    (∀ (i : Instr) (rd : Sel) (v : Byte),
      ((∃ imm, i = .andBImm imm rd ∧ v = s.get8 rd &&& imm) ∨ (∃ rs, i = .andBReg rs rd ∧ v = s.get8 rd &&& s.get8 rs)
        ∨ (∃ imm, i = .orBImm imm rd ∧ v = s.get8 rd ||| imm) ∨ (∃ rs, i = .orBReg rs rd ∧ v = s.get8 rd ||| s.get8 rs)
        ∨ (∃ imm, i = .xorBImm imm rd ∧ v = s.get8 rd ^^^ imm)
        ∨ (∃ rs, i = .xorBReg rs rd ∧ v = s.get8 rd ^^^ s.get8 rs) ∨ (i = .notB rd ∧ v = ~~~(s.get8 rd))) →
      answersByte s (exec i s) rd v (moveFlagsAre v s.ccr))
    ∧ (∀ (i : Instr) (rd : Sel) (v : Half),
      ((∃ imm, i = .andWImm imm rd ∧ v = s.get16 rd &&& imm)
        ∨ (∃ rs, i = .andWReg rs rd ∧ v = s.get16 rd &&& s.get16 rs)
        ∨ (∃ imm, i = .orWImm imm rd ∧ v = s.get16 rd ||| imm)
        ∨ (∃ rs, i = .orWReg rs rd ∧ v = s.get16 rd ||| s.get16 rs)
        ∨ (∃ imm, i = .xorWImm imm rd ∧ v = s.get16 rd ^^^ imm)
        ∨ (∃ rs, i = .xorWReg rs rd ∧ v = s.get16 rd ^^^ s.get16 rs) ∨ (i = .notW rd ∧ v = ~~~(s.get16 rd))) →
      answersHalf s (exec i s) rd v (moveFlagsAre v s.ccr))
    ∧ ∀ (i : Instr) (rd : ErSel) (v : Long),
      ((∃ imm, i = .andLImm imm rd ∧ v = s.get32 rd &&& imm)
        ∨ (∃ rs, i = .andLReg rs rd ∧ v = s.get32 rd &&& s.get32 rs)
        ∨ (∃ imm, i = .orLImm imm rd ∧ v = s.get32 rd ||| imm)
        ∨ (∃ rs, i = .orLReg rs rd ∧ v = s.get32 rd ||| s.get32 rs)
        ∨ (∃ imm, i = .xorLImm imm rd ∧ v = s.get32 rd ^^^ imm)
        ∨ (∃ rs, i = .xorLReg rs rd ∧ v = s.get32 rd ^^^ s.get32 rs) ∨ (i = .notL rd ∧ v = ~~~(s.get32 rd))) →
      answersLong s (exec i s) rd v (moveFlagsAre v s.ccr)

/-- Rules R700-R703, R707-R709, R713-R715, R719-R721: the shifts and rotates to the left: the value doubled, what comes in
at the bottom, C the old top bit, and V for SHAL when the sign changes. -/
def Obligations.LeftShiftResults : Prop :=
  ∀ s : State,
    (∀ (i : Instr) (rd : Sel) (low v : Bool),
      ((i = .shalB rd ∧ low = false ∧ v = ((s.get8 rd).getLsbD 7 ^^ (s.get8 rd).getLsbD 6))
        ∨ (i = .shllB rd ∧ low = false ∧ v = false) ∨ (i = .rotlB rd ∧ low = (s.get8 rd).getLsbD 7 ∧ v = false)
        ∨ (i = .rotxlB rd ∧ low = s.ccr.c ∧ v = false)) →
      answersByte s (exec i s) rd (shiftedLeft (s.get8 rd) low)
        (shiftFlagsAre (shiftedLeft (s.get8 rd) low) ((s.get8 rd).getLsbD 7) v s.ccr))
    ∧ (∀ (i : Instr) (rd : Sel) (low v : Bool),
      ((i = .shalW rd ∧ low = false ∧ v = ((s.get16 rd).getLsbD 15 ^^ (s.get16 rd).getLsbD 14))
        ∨ (i = .shllW rd ∧ low = false ∧ v = false) ∨ (i = .rotlW rd ∧ low = (s.get16 rd).getLsbD 15 ∧ v = false)
        ∨ (i = .rotxlW rd ∧ low = s.ccr.c ∧ v = false)) →
      answersHalf s (exec i s) rd (shiftedLeft (s.get16 rd) low)
        (shiftFlagsAre (shiftedLeft (s.get16 rd) low) ((s.get16 rd).getLsbD 15) v s.ccr))
    ∧ ∀ (i : Instr) (rd : ErSel) (low v : Bool),
      ((i = .shalL rd ∧ low = false ∧ v = ((s.get32 rd).getLsbD 31 ^^ (s.get32 rd).getLsbD 30))
        ∨ (i = .shllL rd ∧ low = false ∧ v = false) ∨ (i = .rotlL rd ∧ low = (s.get32 rd).getLsbD 31 ∧ v = false)
        ∨ (i = .rotxlL rd ∧ low = s.ccr.c ∧ v = false)) →
      answersLong s (exec i s) rd (shiftedLeft (s.get32 rd) low)
        (shiftFlagsAre (shiftedLeft (s.get32 rd) low) ((s.get32 rd).getLsbD 31) v s.ccr)

/-- Rules R700, R704-R706, R710-R712, R716-R718, R722-R724: the shifts and rotates to the right: the value halved, what
comes in at the top, C the old bit 0. -/
def Obligations.RightShiftResults : Prop :=
  ∀ s : State,
    (∀ (i : Instr) (rd : Sel) (top : Bool),
      ((i = .sharB rd ∧ top = (s.get8 rd).getLsbD 7) ∨ (i = .shlrB rd ∧ top = false)
        ∨ (i = .rotrB rd ∧ top = (s.get8 rd).getLsbD 0) ∨ (i = .rotxrB rd ∧ top = s.ccr.c)) →
      answersByte s (exec i s) rd (shiftedRight (s.get8 rd) top)
        (shiftFlagsAre (shiftedRight (s.get8 rd) top) ((s.get8 rd).getLsbD 0) false s.ccr))
    ∧ (∀ (i : Instr) (rd : Sel) (top : Bool),
      ((i = .sharW rd ∧ top = (s.get16 rd).getLsbD 15) ∨ (i = .shlrW rd ∧ top = false)
        ∨ (i = .rotrW rd ∧ top = (s.get16 rd).getLsbD 0) ∨ (i = .rotxrW rd ∧ top = s.ccr.c)) →
      answersHalf s (exec i s) rd (shiftedRight (s.get16 rd) top)
        (shiftFlagsAre (shiftedRight (s.get16 rd) top) ((s.get16 rd).getLsbD 0) false s.ccr))
    ∧ ∀ (i : Instr) (rd : ErSel) (top : Bool),
      ((i = .sharL rd ∧ top = (s.get32 rd).getLsbD 31) ∨ (i = .shlrL rd ∧ top = false)
        ∨ (i = .rotrL rd ∧ top = (s.get32 rd).getLsbD 0) ∨ (i = .rotxrL rd ∧ top = s.ccr.c)) →
      answersLong s (exec i s) rd (shiftedRight (s.get32 rd) top)
        (shiftFlagsAre (shiftedRight (s.get32 rd) top) ((s.get32 rd).getLsbD 0) false s.ccr)

/-! ### Bit manipulation -/

/-- Rules R800-R804, R808, R809: BSET, BCLR, BNOT, BST and BIST on a register change one bit of it. -/
def Obligations.BitWritesOfRegisters : Prop :=
  ∀ (s : State) (i : Instr) (rd : Sel) (k : BitVec 3) (v : Bool),
    ((i = .bsetImmReg k rd ∧ v = true) ∨ (i = .bclrImmReg k rd ∧ v = false)
      ∨ (i = .bnotImmReg k rd ∧ v = !(s.get8 rd).getLsbD k.toNat)
      ∨ (∃ rn, k.toNat = (s.get8 rn).toNat % 8 ∧ ((i = .bsetRegReg rn rd ∧ v = true)
        ∨ (i = .bclrRegReg rn rd ∧ v = false) ∨ (i = .bnotRegReg rn rd ∧ v = !(s.get8 rd).getLsbD k.toNat)))
      ∨ (i = .bstReg k rd ∧ v = s.ccr.c) ∨ (i = .bistReg k rd ∧ v = !s.ccr.c)) →
    ∃ b', bitMade (s.get8 rd) k v b' ∧ answersByte s (exec i s) rd b' (· = s.ccr)

/-- Rules R800-R804, R808, R809: the same on a byte of memory, which is read and always written. -/
def Obligations.BitWritesOfMemory : Prop :=
  ∀ (s : State) (i : Instr) (a : Addr) (k : BitVec 3) (v : Bool),
    (∃ rd, a = eaInd s rd ∧
      ((i = .bsetImmInd k rd ∧ v = true) ∨ (i = .bclrImmInd k rd ∧ v = false)
        ∨ (i = .bnotImmInd k rd ∧ v = !(s.raw a).getLsbD k.toNat)
        ∨ (∃ rn, k.toNat = (s.get8 rn).toNat % 8 ∧ ((i = .bsetRegInd rn rd ∧ v = true)
          ∨ (i = .bclrRegInd rn rd ∧ v = false) ∨ (i = .bnotRegInd rn rd ∧ v = !(s.raw a).getLsbD k.toNat)))
        ∨ (i = .bstInd k rd ∧ v = s.ccr.c) ∨ (i = .bistInd k rd ∧ v = !s.ccr.c)))
    ∨ (∃ abs, a = eaAbs8 abs ∧
      ((i = .bsetImmAbs8 k abs ∧ v = true) ∨ (i = .bclrImmAbs8 k abs ∧ v = false)
        ∨ (i = .bnotImmAbs8 k abs ∧ v = !(s.raw a).getLsbD k.toNat)
        ∨ (∃ rn, k.toNat = (s.get8 rn).toNat % 8 ∧ ((i = .bsetRegAbs8 rn abs ∧ v = true)
          ∨ (i = .bclrRegAbs8 rn abs ∧ v = false) ∨ (i = .bnotRegAbs8 rn abs ∧ v = !(s.raw a).getLsbD k.toNat)))
        ∨ (i = .bstAbs8 k abs ∧ v = s.ccr.c) ∨ (i = .bistAbs8 k abs ∧ v = !s.ccr.c))) →
    modifiesByte s (exec i s) a k v

/-- Rules R800, R805-R807, R810-R815: BTST sets Z to the complement of the bit, and no other flag; the bit instructions
that write C write C alone. -/
def Obligations.BitReads : Prop :=
  ∀ s : State,
    (∀ k rd, answersFlags s (exec (.btstImmReg k rd) s) (· = { s.ccr with z := !(s.get8 rd).getLsbD k.toNat }))
    ∧ (∀ rn rd, answersFlags s (exec (.btstRegReg rn rd) s)
        (· = { s.ccr with z := !(s.get8 rd).getLsbD ((s.get8 rn).toNat % 8) }))
    ∧ (∀ k rd, testsByte s (exec (.btstImmInd k rd) s) (eaInd s rd) (fun b => { s.ccr with z := !b }) k)
    ∧ (∀ rn rd (k : BitVec 3), k.toNat = (s.get8 rn).toNat % 8 →
        testsByte s (exec (.btstRegInd rn rd) s) (eaInd s rd) (fun b => { s.ccr with z := !b }) k)
    ∧ (∀ k abs, testsByte s (exec (.btstImmAbs8 k abs) s) (eaAbs8 abs) (fun b => { s.ccr with z := !b }) k)
    ∧ (∀ rn abs (k : BitVec 3), k.toNat = (s.get8 rn).toNat % 8 →
        testsByte s (exec (.btstRegAbs8 rn abs) s) (eaAbs8 abs) (fun b => { s.ccr with z := !b }) k)
    ∧ changesCarry s .bldReg .bldInd .bldAbs8 (fun _ b => b)
    ∧ changesCarry s .bildReg .bildInd .bildAbs8 (fun _ b => !b)
    ∧ changesCarry s .bandReg .bandInd .bandAbs8 (fun c b => c && b)
    ∧ changesCarry s .biandReg .biandInd .biandAbs8 (fun c b => c && !b)
    ∧ changesCarry s .borReg .borInd .borAbs8 (fun c b => c || b)
    ∧ changesCarry s .biorReg .biorInd .biorAbs8 (fun c b => c || !b)
    ∧ changesCarry s .bxorReg .bxorInd .bxorAbs8 (fun c b => c != b)
    ∧ changesCarry s .bixorReg .bixorInd .bixorAbs8 (fun c b => c == b)

/-! ### Branches, jumps and calls -/

/-- Rules R900-R917: the sixteen conditions; a branch changes pc and nothing else. -/
def Obligations.ConditionalBranches : Prop :=
  ∀ s : State,
    branches s .bra True ∧ branches s .brn False
    ∧ branches s .bhi (s.ccr.c = false ∧ s.ccr.z = false) ∧ branches s .bls (s.ccr.c = true ∨ s.ccr.z = true)
    ∧ branches s .bcc (s.ccr.c = false) ∧ branches s .bcs (s.ccr.c = true)
    ∧ branches s .bne (s.ccr.z = false) ∧ branches s .beq (s.ccr.z = true)
    ∧ branches s .bvc (s.ccr.v = false) ∧ branches s .bvs (s.ccr.v = true)
    ∧ branches s .bpl (s.ccr.n = false) ∧ branches s .bmi (s.ccr.n = true)
    ∧ branches s .bge (s.ccr.n = s.ccr.v) ∧ branches s .blt (s.ccr.n ≠ s.ccr.v)
    ∧ branches s .bgt (s.ccr.z = false ∧ s.ccr.n = s.ccr.v) ∧ branches s .ble (s.ccr.z = true ∨ s.ccr.n ≠ s.ccr.v)

/-- What the conditions of rule R900 mean after a compare (rule R509): a branch after CMP.W Rs,Rd goes by the unsigned or
the signed order of Rd and Rs. -/
def Obligations.BranchAfterCompareIsAnOrder : Prop :=
  ∀ (s : State) (rs rd : Sel), ∃ t, exec (.cmpWReg rs rd) s = .next t
    ∧ branches t .bhi ((s.get16 rs).toNat < (s.get16 rd).toNat) ∧ branches t .bls ((s.get16 rd).toNat ≤ (s.get16 rs).toNat)
    ∧ branches t .bcc ((s.get16 rs).toNat ≤ (s.get16 rd).toNat) ∧ branches t .bcs ((s.get16 rd).toNat < (s.get16 rs).toNat)
    ∧ branches t .bne (s.get16 rd ≠ s.get16 rs) ∧ branches t .beq (s.get16 rd = s.get16 rs)
    ∧ branches t .bge ((s.get16 rs).toInt ≤ (s.get16 rd).toInt) ∧ branches t .blt ((s.get16 rd).toInt < (s.get16 rs).toInt)
    ∧ branches t .bgt ((s.get16 rs).toInt < (s.get16 rd).toInt) ∧ branches t .ble ((s.get16 rd).toInt ≤ (s.get16 rs).toInt)

/-- Rules R918-R921 with R217, R220: JMP, BSR, JSR and RTS. -/
def Obligations.JumpsAndCalls : Prop :=
  ∀ s : State,
    (∀ rn, exec (.jmpInd rn) s = .next { s with pc := BitVec.ofNat 16 (s.get32 rn).toNat })
    ∧ (∀ abs, exec (.jmpAbs24 abs) s = .next { s with pc := BitVec.ofNat 16 abs.toNat })
    ∧ (∀ abs : BitVec 8, ∃ t, exec (.jmpMemInd abs) s = .next t ∧ t.pc.toNat = readsAs s (abs.setWidth 16) 2
        ∧ ReadEffect s t (abs.setWidth 16) 2 ∧ t = { s with pc := t.pc, mem := t.mem })
    ∧ (∀ disp, ∃ target ret, isTarget s.pc disp target ∧ isNext s.pc disp ret
        ∧ calls s s (exec (.bsr disp) s) target ret)
    ∧ (∀ rn, calls s s (exec (.jsrInd rn) s) (BitVec.ofNat 16 (s.get32 rn).toNat) (s.pc + 2))
    ∧ (∀ abs : BitVec 24, calls s s (exec (.jsrAbs24 abs) s) (BitVec.ofNat 16 abs.toNat) (s.pc + 4))
    ∧ (∀ abs : BitVec 8, ∃ m target, ReadEffect s m (abs.setWidth 16) 2 ∧ m = { s with mem := m.mem }
        ∧ target.toNat = readsAs s (abs.setWidth 16) 2 ∧ calls s m (exec (.jsrMemInd abs) s) target (s.pc + 2))
    ∧ ∃ t, exec .rts s = .next t ∧ t.pc.toNat = readsAs s (eaInd s 7) 2 ∧ ReadEffect s t (eaInd s 7) 2
        ∧ t.x 7 = s.x 7 + 2 ∧ (∀ i, i ≠ 7 → t.x i = s.x i) ∧ t = { s with pc := t.pc, regs := t.regs, mem := t.mem }

/-! ### System -/

/-- Rules R1000, R1002-R1004: LDC, all eight flags from a byte or from the upper byte of a word; ANDC, ORC and XORC. -/
def Obligations.CcrWriteResults : Prop :=
  ∀ s : State,
    (∀ imm, answersFlags s (exec (.ldcBImm imm) s) (·.pack = imm))
    ∧ (∀ imm, answersFlags s (exec (.andc imm) s) (·.pack = s.ccr.pack &&& imm))
    ∧ (∀ imm, answersFlags s (exec (.orc imm) s) (·.pack = s.ccr.pack ||| imm))
    ∧ (∀ imm, answersFlags s (exec (.xorc imm) s) (·.pack = s.ccr.pack ^^^ imm))
    ∧ (∀ rs, answersFlags s (exec (.ldcBReg rs) s) (·.pack = s.get8 rs))
    ∧ (∀ rs, loadsCcrFrom s (exec (.ldcWInd rs) s) (eaInd s rs))
    ∧ (∀ disp rs, loadsCcrFrom s (exec (.ldcWDisp16 disp rs) s) (eaDisp16 s disp rs))
    ∧ (∀ disp rs, loadsCcrFrom s (exec (.ldcWDisp24 disp rs) s) (eaDisp24 s disp rs))
    ∧ (∀ abs, loadsCcrFrom s (exec (.ldcWAbs16 abs) s) (eaAbs16 abs))
    ∧ (∀ abs, loadsCcrFrom s (exec (.ldcWAbs24 abs) s) (eaAbs24 abs))
    ∧ ∀ rs, ∃ t, exec (.ldcWPostInc rs) s = .next t ∧ t.ccr.pack.toNat = readsAs s (eaInd s rs) 2 / 256
        ∧ ReadEffect s t (eaInd s rs) 2 ∧ t.x (selIndex rs) = s.x (selIndex rs) + 2
        ∧ (∀ i, i ≠ selIndex rs → t.x i = s.x i) ∧ t = { s with regs := t.regs, ccr := t.ccr, mem := t.mem }

/-- Rule R1001: STC, the CCR to a byte register or to the upper byte of a word. -/
def Obligations.CcrReadResults : Prop :=
  ∀ s : State,
    (∀ rd, answersByte s (exec (.stcBReg rd) s) rd s.ccr.pack (· = s.ccr))
    ∧ (∀ rd, storesCcrAt s (exec (.stcWToInd rd) s) (eaInd s rd))
    ∧ (∀ disp rd, storesCcrAt s (exec (.stcWToDisp16 disp rd) s) (eaDisp16 s disp rd))
    ∧ (∀ disp rd, storesCcrAt s (exec (.stcWToDisp24 disp rd) s) (eaDisp24 s disp rd))
    ∧ (∀ abs, storesCcrAt s (exec (.stcWToAbs16 abs) s) (eaAbs16 abs))
    ∧ (∀ abs, storesCcrAt s (exec (.stcWToAbs24 abs) s) (eaAbs24 abs))
    ∧ ∀ rd, ∃ t low, exec (.stcWToPreDec rd) s = .next t ∧ WriteEffect s t (eaPreDec s 2 rd) [s.ccr.pack, low]
        ∧ t.x (selIndex rd) = s.x (selIndex rd) - 2 ∧ (∀ i, i ≠ selIndex rd → t.x i = s.x i) ∧ t.ccr = s.ccr
        ∧ t.pc = s.pc ∧ s.sameButWritten t

/-- Rules R1005-R1007, R1121: NOP, SLEEP and RTE. -/
def Obligations.NopSleepRteResults : Prop :=
  ∀ s : State, exec .nop s = .next s ∧ exec .sleep s = .next { s with sleep := true }
    ∧ ∃ t, exec .rte s = .next t ∧ t.pc = s.savedPC ∧ t.ccr.pack = s.savedCCR ∧ t = { s with pc := t.pc, ccr := t.ccr }

/-- Rules R331, R418, R1008, R1101: TRAPA, MOVFPE and MOVTPE raise DecodeError, with the keys of their bytes, and change
nothing else. -/
def Obligations.NotAdmittedRaiseDecodeError : Prop :=
  ∀ (s : State) (i : Instr),
    (∃ imm, i = .trapa imm) ∨ (∃ abs rd, i = .movfpe abs rd) ∨ (∃ rs abs, i = .movtpe rs abs) →
    ∃ k, exec i s = .next { s with fault := some ⟨.decodeError, some k, s.instrCount, s.pc⟩ }
      ∧ (∀ imm, i = .trapa imm → k.k1 = (5, 7)) ∧ ((∀ imm, i ≠ .trapa imm) → k.k1 = (6, 10))

/-! ### Every instruction -/

/-- Rules R111, R122, R1100: what no instruction touches. Every instruction answers a next state; the saved context, the
counters, the RTC, the timers' prescale counters, the devices' stores, the queues and the outputs stay; sleep, the fault,
pc and the flags I, UI and U change by the instructions named only. -/
def Obligations.InstructionFrame : Prop :=
  ∀ (i : Instr) (s : State), ∃ t, exec i s = .next t
    ∧ t = { s with regs := t.regs, pc := t.pc, ccr := t.ccr, mem := t.mem, sleep := t.sleep, tb1Load := t.tb1Load,
                   eep := t.eep, acc := t.acc, lcd := t.lcd, fault := t.fault, draws := t.draws }
    ∧ (i ≠ .sleep → t.sleep = s.sleep) ∧ (i.admitted = true → t.fault = s.fault) ∧ (i.setsPc = false → t.pc = s.pc)
    ∧ (loadsCcr i = false → t.ccr.i = s.ccr.i ∧ t.ccr.ui = s.ccr.ui ∧ t.ccr.u = s.ccr.u)

/-! ### The step -/

/-- Rules R111, R1140, R233: where the ten bytes at pc decode to an instruction, the step is that instruction, then the
advance of pc by its declared length and the count, the interrupt check, and the ticks of its cost. Without a key
acknowledge or a patch at pc, it is executed in the state as the host inputs left it; else the acknowledge comes first and
then the patch, and the decode is after both (`HostInputsAndKeys` says what the two do). That a row which a short list of costs
lacks costs one cycle is the model's choice (log 25), and so is the queue from which a step takes its inputs (log 12). -/
def Obligations.StepRunsInstruction : Prop :=
  ∀ (s : State) (i : Instr), s.awake → decode s.takeInputs.beforeDecode.fetch = .ok i →
    (∀ t, exec i s.takeInputs.beforeDecode = .next t →
      (t.fault ≠ none → step s = .next t)
      ∧ (t.fault = none → step s = .next (State.ticks (s.cfg.cycles.getD i.row 1)
          { t with pc := t.pc + BitVec.ofNat 16 i.declaredLength, instrCount := t.instrCount + 1 }.interruptCheck)))
    ∧ (∀ k, k < 10 → s.takeInputs.beforeDecode.fetch.getD k 0
        = s.takeInputs.beforeDecode.raw (s.takeInputs.beforeDecode.pc + BitVec.ofNat 16 k))
    ∧ s.takeInputs.beforeDecode = s.takeInputs.keyAck.applyPcPatch
    ∧ (s.takeInputs.pc ≠ s.cfg.keyAckPc → (∀ e ∈ s.cfg.pcPatches, e.addr ≠ s.takeInputs.pc) →
        s.takeInputs.beforeDecode = s.takeInputs)

/-- Rules R330, R1101, R1102: bytes that match no admitted row raise DecodeError, which names their first key, and nothing
else happens in the step. -/
def Obligations.StepRejectsUndecodableBytes : Prop :=
  ∀ s : State, s.awake → ∀ d, d = s.takeInputs.beforeDecode → (∀ i, decode d.fetch = .ok i → i.admitted = false) →
    ∃ k, k.k1 = ((d.raw d.pc).extractLsb' 4 4, (d.raw d.pc).extractLsb' 0 4)
      ∧ step s = .next { d with fault := some ⟨.decodeError, some k, d.instrCount, d.pc⟩ }

/-- Rules R1101, R1350, R1351: how a run ends. A Faulted machine stays as it is; the stop request, seen between steps,
emits the EEPROM's contents and ends the run, after which there is no step (log 12). -/
def Obligations.RunEnds : Prop :=
  (∀ s : State, s.fault ≠ none → s.runEnded = false → step s = .next s)
    ∧ (∀ s : State, s.running → s.takeInputs.stopRequested = true →
        step s = .next { s.takeInputs with out := s.takeInputs.out ++ [.eepromSave s.takeInputs.eepMem],
                                           runEnded := true })
    ∧ ∀ s : State, s.runEnded = true → step s = .fault .runEnded

/-- The invariant (memory, EEPROM and framebuffer in canonical form and within their sizes, the accelerometer store of its
size, the fault record of the state it stopped in, the counters) is kept by every step, and no step changes the parameters
(log 6). -/
def Obligations.StepKeepsInvariant : Prop :=
  ∀ s t : State, s.inv = true → step s = .next t → t.inv = true ∧ t.cfg = s.cfg

/-- Rules R1006, R1110, R1120, R1140, R1270, R1290, R1350: with I set a sleeping machine idles for ever, whatever keys and
other inputs but the stop request come in: its registers, flags and counts stay, and time advances by the idle cost at each
step while no unit faults. In general a step of a machine that sleeps after its inputs decodes nothing: it is the interrupt
check and the ticks of the idle cost. A source that is pending and enabled while I is clear wakes it. The queue of inputs is
the model's (log 12). -/
def Obligations.SleepingSteps : Prop :=
  (∀ (s : State) (k : Nat), s.running → s.sleep = true → s.ccr.i = true → s.stopRequested = false →
    (∀ batch ∈ s.inputs, HostInput.stop ∉ batch) →
    ∃ t, stepsTo k s t ∧ t.sleep = true ∧ t.regs = s.regs ∧ t.pc = s.pc ∧ t.ccr = s.ccr ∧ t.savedPC = s.savedPC
      ∧ t.savedCCR = s.savedCCR ∧ t.instrCount = s.instrCount ∧ t.rtcInit = s.rtcInit
      ∧ (t.fault = none → t.cycleIndex = s.cycleIndex + k * s.cfg.sleepIdleCycles))
    ∧ ∀ s m : State, s.running → m = s.takeInputs → m.stopRequested = false → m.sleep = true →
      step s = .next (State.ticks s.cfg.sleepIdleCycles m.interruptCheck)
      ∧ (m.ccr.i = false →
        (∃ src ∈ [(s.cfg.io.flagIrq0, s.cfg.io.enIrq0), (s.cfg.io.flagIrq1, s.cfg.io.enIrq1),
            (s.cfg.io.flagRtcQuarter, s.cfg.io.enRtcQuarter), (s.cfg.io.flagRtcHalf, s.cfg.io.enRtcHalf),
            (s.cfg.io.flagRtcSecond, s.cfg.io.enRtcSecond), (s.cfg.io.flagRtcMinute, s.cfg.io.enRtcMinute),
            (s.cfg.io.flagRtcHour, s.cfg.io.enRtcHour), (s.cfg.io.flagTb1, s.cfg.io.enTb1)],
          m.bit src.1 = true ∧ m.bit src.2 = true) →
        ∃ t, step s = .next t ∧ t.sleep = false ∧ t.savedPC = s.pc ∧ t.savedCCR = s.ccr.pack
          ∧ t.ccr = { s.ccr with i := true } ∧ t.pc = m.interruptCheck.pc ∧ t.regs = s.regs
          ∧ t.instrCount = s.instrCount)

/-! ### Interrupts -/

/-- Rules R1120, R1121, R1122: the entry saves pc and flags, jumps through the vector, sets I, clears sleep and changes
nothing else; RTE then gives pc and flags back. -/
def Obligations.InterruptEntryAndReturn : Prop :=
  ∀ (s : State) (vec : Addr),
    (s.interrupt vec).pc.toNat = 256 * (s.raw vec).toNat + (s.raw (vec + 1)).toNat
    ∧ (s.interrupt vec).savedPC = s.pc ∧ (s.interrupt vec).savedCCR = s.ccr.pack
    ∧ s.interrupt vec = { s with pc := (s.interrupt vec).pc, savedPC := s.pc, savedCCR := s.ccr.pack,
                                 ccr := { s.ccr with i := true }, sleep := false }
    ∧ exec .rte (s.interrupt vec) = .next { s.interrupt vec with pc := s.pc, ccr := s.ccr }

/-- Rules R1110, R1111, R1220: nothing is taken while I is set; else the RTC starts at its first check, and the first
source in the fixed order that is both pending and enabled is taken, through its own vector. The queue of wall-clock
readings is the model's (log 13). -/
def Obligations.InterruptPriority : Prop :=
  ∀ s : State,
    (s.ccr.i = true → s.interruptCheck = s)
    ∧ (s.ccr.i = false →
      let io := s.cfg.io
      let r := if s.rtcInit then s else
        { (s.readWall.2) with rtcInit := true, rtcQuarter := 0,
                              rtcPrev := ⟨s.readWall.1.sec, s.readWall.1.min, s.readWall.1.hour⟩ }
      s.interruptCheck =
        if s.bit io.flagIrq0 && s.bit io.enIrq0 then r.interrupt s.cfg.vecIrq0
        else if s.bit io.flagIrq1 && s.bit io.enIrq1 then r.interrupt s.cfg.vecIrq1
        else if s.bit io.flagRtcQuarter && s.bit io.enRtcQuarter then r.interrupt s.cfg.vecRtcQuarter
        else if s.bit io.flagRtcHalf && s.bit io.enRtcHalf then r.interrupt s.cfg.vecRtcHalf
        else if s.bit io.flagRtcSecond && s.bit io.enRtcSecond then r.interrupt s.cfg.vecRtcSecond
        else if s.bit io.flagRtcMinute && s.bit io.enRtcMinute then r.interrupt s.cfg.vecRtcMinute
        else if s.bit io.flagRtcHour && s.bit io.enRtcHour then r.interrupt s.cfg.vecRtcHour
        else if s.bit io.flagTb1 && s.bit io.enTb1 then r.interrupt s.cfg.vecTb1
        else r)
    ∧ (s.wallQueue = [] → s.readWall = (s.wallNow, s))
    ∧ ∀ w ws, s.wallQueue = w :: ws → s.readWall = (w, { s with wallNow := w, wallQueue := ws })

/-! ### Timers and clock -/

/-- Rules R1201, R1202, and what R1342 infers from them: Timer B1 with divisor N and count c counts once in N advancements,
reaches its overflow after exactly (256 - c) * N of them, raises its flag and reloads; no other byte of memory changes. -/
def Obligations.TimerB1Overflows : Prop :=
  ∀ (s : State) (N : Nat), s.cfg.valid = true → s.tb1Running = true → s.tb1Pre = 0 →
    s.cfg.tb1Prescale.getD (s.field s.cfg.io.tb1Cks) none = some N →
    (∀ m, m < (256 - (s.raw s.cfg.io.tb1Cnt).toNat) * N →
      ((times State.timerB1Advance m s).raw s.cfg.io.tb1Cnt).toNat = (s.raw s.cfg.io.tb1Cnt).toNat + m / N
      ∧ (times State.timerB1Advance m s).tb1Pre = m % N
      ∧ ∀ x, x ≠ s.cfg.io.tb1Cnt → (times State.timerB1Advance m s).raw x = s.raw x)
    ∧ ∃ t, t = times State.timerB1Advance ((256 - (s.raw s.cfg.io.tb1Cnt).toNat) * N) s
      ∧ t.raw s.cfg.io.tb1Cnt = s.tb1Load ∧ t.bit s.cfg.io.flagTb1 = true
      ∧ s.keepsBut t [s.cfg.io.tb1Cnt] [s.cfg.io.flagTb1]
      ∧ t = { s with mem := t.mem, tb1Pre := 0 }

/-- Rules R1201, R1205, and what R1342 infers from them: Timer W with divisor M, counter t and GRA above it, while I is set: it counts once in M
advancements and matches after exactly (GRA - t) * M of them; then it raises its match flag, and clears if asked to. -/
def Obligations.TimerWMatches : Prop :=
  ∀ (s : State) (M : Nat), s.cfg.valid = true → s.twRunning = true → s.twPre = 0 → s.ccr.i = true →
    s.cfg.twPrescale.getD (s.field s.cfg.io.twCks) none = some M →
    (s.raw16 s.cfg.io.twTcnt).toNat < (s.raw16 s.cfg.io.twGra).toNat →
    (∀ m, m < ((s.raw16 s.cfg.io.twGra).toNat - (s.raw16 s.cfg.io.twTcnt).toNat) * M →
      ((times State.timerWAdvance m s).raw16 s.cfg.io.twTcnt).toNat = (s.raw16 s.cfg.io.twTcnt).toNat + m / M
      ∧ ∀ x, x ≠ s.cfg.io.twTcnt → x ≠ s.cfg.io.twTcnt + 1 → (times State.timerWAdvance m s).raw x = s.raw x)
    ∧ ∃ t, t = times State.timerWAdvance
        (((s.raw16 s.cfg.io.twGra).toNat - (s.raw16 s.cfg.io.twTcnt).toNat) * M) s
      ∧ t.bit s.cfg.io.twImfa = true ∧ t.bit s.cfg.io.twOvf = s.bit s.cfg.io.twOvf
      ∧ t.raw16 s.cfg.io.twTcnt = (if s.bit s.cfg.io.twCclr then 0 else s.raw16 s.cfg.io.twGra)
      ∧ s.keepsBut t [s.cfg.io.twTcnt, s.cfg.io.twTcnt + 1] [s.cfg.io.twImfa]
      ∧ t = { s with mem := t.mem, twPre := 0 }

/-- Rules R1204, R1205: one advancement in which Timer W counts: the flags of a match and of the wrap, and the interrupt,
entered there and then when an event (or with `TW_IRQ_LEVEL` a flag) is enabled and I is clear. In one in which it does not
count, because it is stopped or its prescale is not due, a flag that is set and enabled is delivered with `TW_IRQ_LEVEL`, and
else nothing but the prescale counter changes. -/
def Obligations.TimerWCountsAndDelivers : Prop :=
  (∀ (s t : State) (M : Nat), s.cfg.valid = true → s.twRunning = true → M ≤ s.twPre + 1 →
    s.cfg.twPrescale.getD (s.field s.cfg.io.twCks) none = some M → t = s.timerWAdvance →
    ∀ hit wrap : Bool, (hit = true ↔ s.raw16 s.cfg.io.twTcnt + 1 = s.raw16 s.cfg.io.twGra) →
      (wrap = true ↔ (s.raw16 s.cfg.io.twTcnt).toNat = 65535) →
      t.bit s.cfg.io.twImfa = (hit || s.bit s.cfg.io.twImfa) ∧ t.bit s.cfg.io.twOvf = (wrap || s.bit s.cfg.io.twOvf)
      ∧ t.raw16 s.cfg.io.twTcnt
        = (if hit && s.bit s.cfg.io.twCclr then 0 else s.raw16 s.cfg.io.twTcnt + 1)
      ∧ s.keepsBut t [s.cfg.io.twTcnt, s.cfg.io.twTcnt + 1] [s.cfg.io.twImfa, s.cfg.io.twOvf]
      ∧ (let m := if s.cfg.twIrqLevel then t.bit s.cfg.io.twImfa else hit
         let o := if s.cfg.twIrqLevel then t.bit s.cfg.io.twOvf else wrap
         let base : State := { s with mem := t.mem, twPre := 0 }
         t = if !s.ccr.i && (m && s.bit s.cfg.io.twImiea || o && s.bit s.cfg.io.twOvie) then
               { base with savedPC := s.pc, savedCCR := s.ccr.pack, pc := base.raw16 s.cfg.vecTw,
                           ccr := { s.ccr with i := true }, sleep := false }
             else base))
    ∧ ∀ (s t : State) (pre : Nat), t = s.timerWAdvance →
      (s.twRunning = false ∧ pre = s.twPre
        ∨ s.twRunning = true ∧ pre = s.twPre + 1
          ∧ ∃ M, s.cfg.twPrescale.getD (s.field s.cfg.io.twCks) none = some M ∧ s.twPre + 1 < M) →
      t = if s.cfg.twIrqLevel && !s.ccr.i
              && (s.bit s.cfg.io.twImfa && s.bit s.cfg.io.twImiea || s.bit s.cfg.io.twOvf && s.bit s.cfg.io.twOvie) then
            { s with twPre := pre, savedPC := s.pc, savedCCR := s.ccr.pack, pc := s.raw16 s.cfg.vecTw,
                     ccr := { s.ccr with i := true }, sleep := false }
          else { s with twPre := pre }

/-- Rules R1201, R1101: a running timer whose select code has no divisor faults, and changes nothing; a stopped one of any code
neither faults nor counts. That a code which a short list lacks has no divisor is the model's reading (log 25), and so is that
a ConfigError of Timer W skips the delivery of that advancement, so that pc and the saved context stay (log 27). -/
def Obligations.PrescaleFaultsAndHolds : Prop :=
  ∀ s : State,
    (s.tb1Running = true → s.cfg.tb1Prescale.getD (s.field s.cfg.io.tb1Cks) none = none →
      s.timerB1Advance
        = { s with fault := some ⟨.configError .b1 (s.field s.cfg.io.tb1Cks), none, s.instrCount, s.pc⟩ })
    ∧ (s.tb1Running = false → s.timerB1Advance = s)
    ∧ (s.twRunning = true → s.cfg.twPrescale.getD (s.field s.cfg.io.twCks) none = none →
      s.timerWAdvance = { s with fault := some ⟨.configError .w (s.field s.cfg.io.twCks), none, s.instrCount, s.pc⟩ })
    ∧ (s.twRunning = false → (s.ccr.i = true ∨ s.cfg.twIrqLevel = false) → s.timerWAdvance = s)

/-- Rules R1220-R1222: an RTC tick before the start does nothing; after it, the four fields are the clock in packed
decimal, and the flags are raised as the rule says. The queue of readings is the model's (log 13). -/
def Obligations.RtcTicks : Prop :=
  ∀ (s t : State) (w : WallClock), s.cfg.valid = true → w = s.readWall.1 → t = s.rtcTick →
    (s.rtcInit = false → t = s)
    ∧ (s.rtcInit = true →
      (t.raw s.cfg.io.rtcSec).toNat = w.sec.val / 10 * 16 + w.sec.val % 10
      ∧ (t.raw s.cfg.io.rtcMin).toNat = w.min.val / 10 * 16 + w.min.val % 10
      ∧ (t.raw s.cfg.io.rtcHour).toNat = w.hour.val / 10 * 16 + w.hour.val % 10
      ∧ (t.raw s.cfg.io.rtcDay).toNat = w.day.val / 10 * 16 + w.day.val % 10
      ∧ t.bit s.cfg.io.flagRtcQuarter = true
      ∧ (t.bit s.cfg.io.flagRtcHalf = true ↔ s.bit s.cfg.io.flagRtcHalf = true ∨ s.rtcQuarter % 2 = 1)
      ∧ (t.bit s.cfg.io.flagRtcSecond = true ↔ s.bit s.cfg.io.flagRtcSecond = true ∨ w.sec ≠ s.rtcPrev.sec)
      ∧ (t.bit s.cfg.io.flagRtcMinute = true ↔ s.bit s.cfg.io.flagRtcMinute = true ∨ w.min ≠ s.rtcPrev.min)
      ∧ (t.bit s.cfg.io.flagRtcHour = true ↔ s.bit s.cfg.io.flagRtcHour = true ∨ w.hour ≠ s.rtcPrev.hour)
      ∧ t = { s.readWall.2 with mem := t.mem, rtcQuarter := s.rtcQuarter + 1, rtcPrev := ⟨w.sec, w.min, w.hour⟩ }
      ∧ s.keepsBut t [s.cfg.io.rtcSec, s.cfg.io.rtcMin, s.cfg.io.rtcHour, s.cfg.io.rtcDay]
          [s.cfg.io.flagRtcQuarter, s.cfg.io.flagRtcHalf, s.cfg.io.flagRtcSecond, s.cfg.io.flagRtcMinute,
            s.cfg.io.flagRtcHour])

/-! ### The SSU and its devices -/

/-- Rules R1232, R1233, R1241: a byte that firmware sends to the EEPROM stays pending for six SSU ticks and is taken at
the seventh; what it does there, by the protocol's state. No other bit of memory changes than those that `stillPending` and
`taken` name. -/
def Obligations.EepromTakesBytes : Prop :=
  ∀ (s t : State) (tx : Byte) (combined : Bool), s.cfg.valid = true → s.onEeprom combined → s.eep.progress = 0 →
    t = s.ssuSend tx →
    (∀ k : Nat, (hk : k < 7) → ∃ u, u = times State.ssuTick k (s.store8 s.cfg.io.ssuTdr tx)
      ∧ stillPending s u tx ∧ u = { s with mem := u.mem, eep := { s.eep with progress := ⟨k, hk⟩ } })
    ∧ taken s t tx combined (s.eep.state = .readData ∨ s.eep.state = .readStatus)
    ∧ t = { s with mem := t.mem, eep := t.eep, eepMem := t.eepMem, out := t.out }
    ∧ (s.eep.state = .waiting →
      (tx = s.cfg.eepCmdRead → t.eep = { s.eep with kind := .read, state := .addrHigh })
      ∧ (tx = s.cfg.eepCmdWrite → t.eep = { s.eep with kind := .write, state := .addrHigh })
      ∧ (tx = s.cfg.eepCmdWren → ∃ b, bitMade s.eep.status s.cfg.eepWelBit true b ∧ t.eep = { s.eep with status := b })
      ∧ (tx = s.cfg.eepCmdRdsr → t.eep = { s.eep with state := .readStatus })
      ∧ (tx ∈ [s.cfg.eepCmdRead, s.cfg.eepCmdWrite, s.cfg.eepCmdWren, s.cfg.eepCmdRdsr] → t.out = s.out)
      ∧ (tx ∉ [s.cfg.eepCmdRead, s.cfg.eepCmdWrite, s.cfg.eepCmdWren, s.cfg.eepCmdRdsr] →
          t.eep = s.eep ∧ t.out = s.out ++ [.unknownCommand tx]))
    ∧ (s.eep.state = .addrHigh →
      t.eep.address.toNat = 256 * tx.toNat + s.eep.address.toNat % 256
      ∧ t.eep = { s.eep with address := t.eep.address, state := .addrLow })
    ∧ (s.eep.state = .addrLow →
      t.eep.address.toNat = 256 * (s.eep.address.toNat / 256) + tx.toNat
      ∧ t.eep = { s.eep with address := t.eep.address, offset := 0,
                             state := if s.eep.kind = .read then .readData else .writeData })
    ∧ (s.eep.state = .readData → t.eep = { s.eep with offset := s.eep.offset + 1 }
      ∧ (combined = true → t.raw s.cfg.io.ssuRdr
          = s.eepMem.read eepErased ((s.eep.address.toNat + s.eep.offset) % 65536)))
    ∧ (s.eep.state = .writeData → t.eep = { s.eep with offset := s.eep.offset + 1 }
      ∧ ∀ a, t.eepMem.read eepErased a
          = if a = s.eep.address.toNat / 128 * 128 + (s.eep.address.toNat + s.eep.offset) % 128 then tx
            else s.eepMem.read eepErased a)
    ∧ (s.eep.state = .readStatus → t.eep = s.eep ∧ (combined = true → t.raw s.cfg.io.ssuRdr = s.eep.status))
    ∧ (s.eep.state ≠ .writeData → t.eepMem = s.eepMem)
    ∧ (s.eep.state ≠ .waiting → t.out = s.out)

/-- Rule R1242, the round trip of the source: write-enable, write, an address and four bytes; the select taken away and
given again; read, the address and four read cycles in combined mode give the four bytes in SSU_RDR. The address has at
least four bytes left in its page. -/
def Obligations.EepromRoundTrip : Prop :=
  ∀ (s : State) (ah al d₀ d₁ d₂ d₃ x : Byte), s.cfg.valid = true → s.onEeprom true → s.eep.state = .waiting →
    s.eep.progress = 0 → al.toNat % 128 ≤ 124 →
    ∀ w, w = ((s.ssuSendAll [s.cfg.eepCmdWren, s.cfg.eepCmdWrite, ah, al, d₀, d₁, d₂, d₃]).eepReselect).ssuSendAll
        [s.cfg.eepCmdRead, ah, al] →
      (w.ssuSendAll [x]).raw s.cfg.io.ssuRdr = d₀ ∧ (w.ssuSendAll [x, x]).raw s.cfg.io.ssuRdr = d₁
      ∧ (w.ssuSendAll [x, x, x]).raw s.cfg.io.ssuRdr = d₂ ∧ (w.ssuSendAll [x, x, x, x]).raw s.cfg.io.ssuRdr = d₃

/-- Rules R1232, R1233, R1244: a byte that firmware sends to the accelerometer is taken at the first SSU tick; a byte past
its store faults, and the tick changes nothing else. `m` is the state after the write. -/
def Obligations.AccelerometerTakesBytes : Prop :=
  ∀ (s m t : State) (tx : Byte) (combined : Bool), s.cfg.valid = true → s.onAccel combined →
    s.accMem.length = s.cfg.accelSize → m = s.store8 s.cfg.io.ssuTdr tx → t = m.ssuTick →
    stillPending s m tx ∧ m = { s with mem := m.mem }
    ∧ (s.acc.state = .waiting →
      t.acc = ⟨.data, BitVec.ofNat 8 (if combined then tx.toNat % 16 else tx.toNat), 0⟩
      ∧ taken s t tx combined False ∧ t = { s with mem := t.mem, acc := t.acc })
    ∧ (s.acc.state = .data → s.acc.address.toNat + s.acc.offset < s.cfg.accelSize →
      t.acc = { s.acc with offset := s.acc.offset + 1 } ∧ taken s t tx combined True
      ∧ (combined = true → t.raw s.cfg.io.ssuRdr = s.accMem.getD (s.acc.address.toNat + s.acc.offset) 0
          ∧ t.accMem = s.accMem)
      ∧ (combined = false → ∀ j, t.accMem.getD j 0
          = if j = s.acc.address.toNat + s.acc.offset then tx else s.accMem.getD j 0)
      ∧ t = { s with mem := t.mem, acc := t.acc, accMem := t.accMem })
    ∧ (s.acc.state = .data → s.cfg.accelSize ≤ s.acc.address.toNat + s.acc.offset →
      t = { m with fault := some ⟨.accelOverrun (s.acc.address.toNat + s.acc.offset), none, s.instrCount, s.pc⟩ })

/-- Rules R1232, R1233, R1246, R1101: a byte that firmware sends to the LCD controller stays pending for six SSU ticks and
is taken at the seventh: a data byte into the framebuffer, a command byte by its range. Past the framebuffer the seventh tick
only faults: the byte is still pending, and the progress is what the six ticks made it (log 23). -/
def Obligations.LcdTakesBytes : Prop :=
  ∀ (s t : State) (tx : Byte) (data : Bool) (i : Nat), s.cfg.valid = true → s.onLcd data → s.lcd.progress = 0 →
    t = s.ssuSend tx → i = s.lcd.page.toNat * s.cfg.lcdWidth * 2 + s.lcd.column.toNat * 2 + s.lcd.offset.val →
    (∀ k : Nat, (hk : k < 7) → ∃ u, u = times State.ssuTick k (s.store8 s.cfg.io.ssuTdr tx)
      ∧ stillPending s u tx ∧ u = { s with mem := u.mem, lcd := { s.lcd with progress := ⟨k, hk⟩ } })
    ∧ (data = true → i < s.cfg.lcdPages * s.cfg.lcdWidth * 2 →
      (∀ a, t.fb.read fbUnlisted a = if a = i then tx else s.fb.read fbUnlisted a)
      ∧ (s.lcd.offset = 0 → t.lcd = { s.lcd with offset := 1 })
      ∧ (s.lcd.offset = 1 → t.lcd = { s.lcd with offset := 0, column := s.lcd.column + 1 })
      ∧ taken s t tx false False ∧ t = { s with mem := t.mem, fb := t.fb, lcd := t.lcd })
    ∧ (data = true → s.cfg.lcdPages * s.cfg.lcdWidth * 2 ≤ i →
      stillPending s t tx ∧ t = { s with mem := t.mem, lcd := { s.lcd with progress := 6 },
                                         fault := some ⟨.lcdRange i, none, s.instrCount, s.pc⟩ })
    ∧ (data = false →
      t = { s with mem := t.mem, lcd := t.lcd } ∧ taken s t tx false False
      ∧ (s.lcd.state = .contrast → t.lcd = { s.lcd with contrast := tx, state := .waiting })
      ∧ (s.lcd.state = .waiting →
        (tx.toNat ≤ 0x0F → t.lcd.column.toNat = s.lcd.column.toNat / 16 * 16 + tx.toNat
          ∧ t.lcd = { s.lcd with column := t.lcd.column })
        ∧ (0x10 ≤ tx.toNat → tx.toNat ≤ 0x17 → t.lcd.column.toNat = s.lcd.column.toNat % 16 + 16 * (tx.toNat - 0x10)
          ∧ t.lcd = { s.lcd with column := t.lcd.column })
        ∧ (0xB0 ≤ tx.toNat → tx.toNat ≤ 0xBF → t.lcd.page.toNat = tx.toNat - 0xB0
          ∧ t.lcd = { s.lcd with page := t.lcd.page })
        ∧ (tx.toNat = 0x81 → t.lcd = { s.lcd with state := .contrast })
        ∧ (0x18 ≤ tx.toNat → (tx.toNat < 0xB0 ∨ 0xBF < tx.toNat) → tx.toNat ≠ 0x81 → t.lcd = s.lcd)))

/-- Rules R1230, R1231, R1232: an SSU tick with the transmitter off forces the empty flag; with nothing pending, or with
no device to take the byte, it changes nothing. With a byte pending, every device does what it does when it is selected
alone (`a`, `e`, `l`: the tick with only the accelerometer, the EEPROM, or the LCD controller left on), whatever others are
selected; the byte has been taken when one of them takes it, and SSU_RDR holds the EEPROM's byte, or else the
accelerometer's. That a tick in which the accelerometer or the LCD controller faults changes nothing else, although other
devices took the byte, is the model's reading (log 23). -/
def Obligations.SsuIdlesAndServesEverySelect : Prop :=
  (∀ s : State,
    (s.bit s.cfg.io.ssuTe = false → s.ssuTick = s.setBit s.cfg.io.ssuTdre true)
    ∧ (s.bit s.cfg.io.ssuTe = true → s.bit s.cfg.io.ssuTdre = true → s.ssuTick = s)
    ∧ (s.bit s.cfg.io.ssuTe = true → s.selected s.cfg.io.csAccel s.cfg.csAccelActive = false →
        s.selected s.cfg.io.csEeprom s.cfg.csEepromActive = false →
        (s.bit s.cfg.io.ssuRe = true ∨ (s.dcAsserted = false ∧ s.selected s.cfg.io.csLcd s.cfg.csLcdActive = false)) →
        s.ssuTick = s))
    ∧ ∀ (s t a e l : State) (combined : Bool), s.cfg.valid = true → s.fault = none → s.ssuPending →
      s.bit s.cfg.io.ssuRe = combined → t = s.ssuTick → a = s.offEeprom.offLcd.ssuTick → e = s.offAccel.offLcd.ssuTick →
      l = s.offAccel.offEeprom.ssuTick →
      e.fault = none
      ∧ (a.fault ≠ none → t = { s with fault := a.fault })
      ∧ (a.fault = none → l.fault ≠ none → t = { s with fault := l.fault })
      ∧ (a.fault = none → l.fault = none →
        t = { s with mem := t.mem, acc := a.acc, accMem := a.accMem, eep := e.eep, eepMem := e.eepMem, out := e.out,
                     lcd := l.lcd, fb := l.fb }
        ∧ (a.bit s.cfg.io.ssuTdre = false → e.bit s.cfg.io.ssuTdre = false → l.bit s.cfg.io.ssuTdre = false →
            t.mem = s.mem)
        ∧ (a.bit s.cfg.io.ssuTdre = true ∨ e.bit s.cfg.io.ssuTdre = true ∨ l.bit s.cfg.io.ssuTdre = true →
            taken s t (s.raw s.cfg.io.ssuTdr) combined (s.accelAnswers ∨ s.eepromAnswers))
        ∧ (combined = true → s.eepromAnswers → t.raw s.cfg.io.ssuRdr = e.raw s.cfg.io.ssuRdr)
        ∧ (combined = true → ¬ s.eepromAnswers → t.raw s.cfg.io.ssuRdr = a.raw s.cfg.io.ssuRdr))

/-- Rule R1250: an SCI3 tick: a pending byte leaves at once, exactly as it was written; one byte of the receive queue
comes in while receive is enabled and not full. -/
def Obligations.SciTicks : Prop :=
  ∀ (s t : State), s.cfg.valid = true → t = s.sciTick →
    (s.bit s.cfg.io.sciTe = false → t.bit s.cfg.io.sciTdre = true ∧ t.out = s.out
      ∧ t.bit s.cfg.io.sciTend = s.bit s.cfg.io.sciTend)
    ∧ (s.bit s.cfg.io.sciTe = true → s.bit s.cfg.io.sciTdre = true → t.out = s.out ∧ t.bit s.cfg.io.sciTdre = true
      ∧ t.bit s.cfg.io.sciTend = s.bit s.cfg.io.sciTend)
    ∧ (s.bit s.cfg.io.sciTe = true → s.bit s.cfg.io.sciTdre = false →
        t.out = s.out ++ [.irTx (s.raw s.cfg.io.sciTdr)] ∧ t.bit s.cfg.io.sciTdre = true
        ∧ t.bit s.cfg.io.sciTend = true)
    ∧ (∀ b, s.bit s.cfg.io.sciTe = true →
        (s.store8 s.cfg.io.sciTdr b).sciTick.out = s.out ++ [.irTx b])
    ∧ (∀ b rest, s.irRx = b :: rest → s.bit s.cfg.io.sciRe = true → s.bit s.cfg.io.sciRdrf = false →
        t.irRx = rest ∧ t.raw s.cfg.io.sciRdr = b ∧ t.bit s.cfg.io.sciRdrf = true)
    ∧ (s.irRx = [] ∨ s.bit s.cfg.io.sciRe = false ∨ s.bit s.cfg.io.sciRdrf = true →
        t.irRx = s.irRx ∧ t.raw s.cfg.io.sciRdr = s.raw s.cfg.io.sciRdr
        ∧ t.bit s.cfg.io.sciRdrf = s.bit s.cfg.io.sciRdrf)
    ∧ t = { s with mem := t.mem, irRx := t.irRx, out := t.out }
    ∧ s.keepsBut t [s.cfg.io.sciRdr] [s.cfg.io.sciTdre, s.cfg.io.sciTend, s.cfg.io.sciRdrf]

/-! ### The host -/

/-- Rules R1101, R1140, R1260, R1262, R1263, R1314: a tick is the SSU, SCI3, Timer B1, Timer W, the RTC, the frame and the tone,
each on its own period and after those before it, up to the first that faults; `n` ticks have the indexes from `cycleIndex`
on, and end at a fault. A tick on the display's period ends with a frame and a tone, of the state it leaves; any other tick
adds neither. That a period which a short list lacks is 1 (log 25), and that a tick which faults leaves `cycleIndex` at its own
index (log 15), are the model's readings. -/
def Obligations.TicksRunUnitsAndEmit : Prop :=
  (∀ (s t : State) (k : Nat), t = s.tick k → ∃ s₁ s₂ s₃ s₄ s₅ s₆,
    runsIfDue s s₁ k (s.cfg.ssuPeriod.getD (s.field s.cfg.io.ssuCks) 1) State.ssuTick
    ∧ runsIfDue s₁ s₂ k (s.cfg.sci3Period.getD (s₁.field s.cfg.io.sciCks) 1) State.sciTick
    ∧ runsIfDue s₂ s₃ k s.cfg.timerPeriod State.timerB1Advance
    ∧ runsIfDue s₃ s₄ k s.cfg.timerPeriod State.timerWAdvance
    ∧ runsIfDue s₄ s₅ k s.cfg.displayPeriod State.rtcTick
    ∧ runsIfDue s₅ s₆ k s.cfg.displayPeriod State.lcdEmit
    ∧ runsIfDue s₆ t k s.cfg.displayPeriod State.audioEmit)
  ∧ (∀ s : State, State.ticks 0 s = s
    ∧ ∀ (n : Nat) (m t : State), m = State.ticks n s → t = m.tick (s.cycleIndex + n) →
      (m.fault ≠ none → State.ticks (n + 1) s = m)
      ∧ (m.fault = none → t.fault ≠ none → State.ticks (n + 1) s = t)
      ∧ (m.fault = none → t.fault = none →
          State.ticks (n + 1) s = { t with cycleIndex := s.cycleIndex + n + 1 }))
  ∧ ∀ (s t : State) (k : Nat), t = s.tick k → t.fault = none →
    (k % s.cfg.displayPeriod = 0 → ∃ l freq volume, t.out = s.out ++ l ++ [.lcdFrame t.fb t.lcd.contrast, .audio freq volume]
      ∧ (∀ e ∈ l, (∃ b, e = .irTx b) ∨ ∃ b, e = .unknownCommand b)
      ∧ (t.twRunning = true → (t.raw16 t.cfg.io.twGra).toNat ≠ 0 →
          freq * ((t.raw16 t.cfg.io.twGra).toNat : Rat) = 31500)
      ∧ (t.twRunning = false ∨ (t.raw16 t.cfg.io.twGra).toNat = 0 → freq = 0)
      ∧ (t.raw16 t.cfg.io.twGrb = t.raw16 t.cfg.io.twGrc → volume = 1)
      ∧ (t.raw16 t.cfg.io.twGrb ≠ t.raw16 t.cfg.io.twGrc → volume * 4 = 1))
    ∧ (k % s.cfg.displayPeriod ≠ 0 → ∃ l, t.out = s.out ++ l
      ∧ ∀ e ∈ l, (∃ b, e = .irTx b) ∨ ∃ b, e = .unknownCommand b)

/-- Rules R1141, R1270-R1272: a key press, an infrared byte, a reading of the wall clock and the stop request; the key
acknowledge and the patch before decode. That the inputs wait in batches, one for each step, is the model's (log 12), and
so are the queue that a reading joins (log 13) and that of several patches at pc the first of the list applies (log 31). -/
def Obligations.HostInputsAndKeys : Prop :=
  ∀ s : State,
    (∀ k t, t = s.applyInput (.pushKey k) →
      (s.ccr.i = true ∨ k ≠ s.cfg.wakeKey → (∀ x, t.raw x = if x = s.cfg.io.keyPort then k else s.raw x)
        ∧ t = { s with mem := t.mem })
      ∧ (s.ccr.i = false → k = s.cfg.wakeKey → s.cfg.valid = true →
          ∃ f, (s.cfg.keyIrq = .irq0 → f = s.cfg.io.flagIrq0) ∧ (s.cfg.keyIrq = .irq1 → f = s.cfg.io.flagIrq1)
          ∧ t.raw s.cfg.io.keyPort = k ∧ t.bit f = true
          ∧ s.keepsBut t [s.cfg.io.keyPort] [f] ∧ t = { s with mem := t.mem, sleep := false }))
    ∧ (∀ b, s.applyInput (.irReceive b) = { s with irRx := s.irRx ++ [b] })
    ∧ (∀ w, s.applyInput (.wallReading w) = { s with wallQueue := s.wallQueue ++ [w] })
    ∧ (s.applyInput .stop = { s with stopRequested := true })
    ∧ (∀ batch rest, s.inputs = batch :: rest →
        s.takeInputs = batch.foldl State.applyInput { s with inputs := rest })
    ∧ (s.inputs = [] → s.takeInputs = s)
    ∧ (s.pc = s.cfg.keyAckPc → (∀ x, s.keyAck.raw x = if x = s.cfg.io.keyPort then s.cfg.keyNeutral else s.raw x)
        ∧ s.keyAck = { s with mem := s.keyAck.mem })
    ∧ (s.pc ≠ s.cfg.keyAckPc → s.keyAck = s)
    ∧ ((∀ e ∈ s.cfg.pcPatches, e.addr ≠ s.pc) → s.applyPcPatch = s)
    ∧ ∀ before e after t, s.cfg.pcPatches = before ++ e :: after → (∀ e' ∈ before, e'.addr ≠ s.pc) → e.addr = s.pc →
        t = s.applyPcPatch →
        (t.pc.toNat : Int) = (s.pc.toNat + e.delta) % 65536
        ∧ t = { s with regs := t.regs, pc := t.pc }
        ∧ (e.write = none → t.regs = s.regs)
        ∧ (∀ r v, e.write = some (.byte r v) → t.get8 r = v ∧ onlyByte s t r)
        ∧ (∀ r v, e.write = some (.half r v) → t.get16 r = v ∧ onlyHalf s t r)
        ∧ ∀ r v, e.write = some (.long r v) → t.get32 r = v ∧ onlyLong s t r
end

