-- ==== Sys2Proof/Laws/State.lean ====
section
/-! SUPPORT. What each operation of `Machine/Ops.lean` leaves of each field of the state: one lemma per field per update.
A field that an operation changes by more than a plain value has its lemmas in `Laws/Registers.lean` and
`Laws/Memory.lean`. -/

namespace Sys2Proof.Machine

/-- Two states are equal when their fields are. -/
@[ext] theorem State.ext {s t : State}
    (cfg : s.cfg = t.cfg) (regs : s.regs = t.regs) (pc : s.pc = t.pc) (ccr : s.ccr = t.ccr) (mem : s.mem = t.mem)
    (sleep : s.sleep = t.sleep) (savedPC : s.savedPC = t.savedPC) (savedCCR : s.savedCCR = t.savedCCR)
    (instrCount : s.instrCount = t.instrCount) (cycleIndex : s.cycleIndex = t.cycleIndex)
    (rtcInit : s.rtcInit = t.rtcInit) (rtcQuarter : s.rtcQuarter = t.rtcQuarter) (rtcPrev : s.rtcPrev = t.rtcPrev)
    (tb1Pre : s.tb1Pre = t.tb1Pre) (twPre : s.twPre = t.twPre) (tb1Load : s.tb1Load = t.tb1Load) (eep : s.eep = t.eep)
    (eepMem : s.eepMem = t.eepMem) (acc : s.acc = t.acc) (accMem : s.accMem = t.accMem) (lcd : s.lcd = t.lcd)
    (fb : s.fb = t.fb) (irRx : s.irRx = t.irRx) (fault : s.fault = t.fault) (out : s.out = t.out)
    (stopRequested : s.stopRequested = t.stopRequested) (runEnded : s.runEnded = t.runEnded)
    (inputs : s.inputs = t.inputs) (wallNow : s.wallNow = t.wallNow) (wallQueue : s.wallQueue = t.wallQueue)
    (draws : s.draws = t.draws) : s = t := by
  cases s; cases t; dsimp only at *; subst_vars; rfl

/-! `setX` -/

@[simp] theorem State.setX_cfg (s : State) (i : Fin 8) (v : Long) : (s.setX i v).cfg = s.cfg := rfl
@[simp] theorem State.setX_regs (s : State) (i : Fin 8) (v : Long) : (s.setX i v).regs = s.regs.set i v := rfl
@[simp] theorem State.setX_pc (s : State) (i : Fin 8) (v : Long) : (s.setX i v).pc = s.pc := rfl
@[simp] theorem State.setX_ccr (s : State) (i : Fin 8) (v : Long) : (s.setX i v).ccr = s.ccr := rfl
@[simp] theorem State.setX_mem (s : State) (i : Fin 8) (v : Long) : (s.setX i v).mem = s.mem := rfl
@[simp] theorem State.setX_sleep (s : State) (i : Fin 8) (v : Long) : (s.setX i v).sleep = s.sleep := rfl
@[simp] theorem State.setX_savedPC (s : State) (i : Fin 8) (v : Long) : (s.setX i v).savedPC = s.savedPC := rfl
@[simp] theorem State.setX_savedCCR (s : State) (i : Fin 8) (v : Long) : (s.setX i v).savedCCR = s.savedCCR := rfl
@[simp] theorem State.setX_instrCount (s : State) (i : Fin 8) (v : Long) : (s.setX i v).instrCount = s.instrCount := rfl
@[simp] theorem State.setX_cycleIndex (s : State) (i : Fin 8) (v : Long) : (s.setX i v).cycleIndex = s.cycleIndex := rfl
@[simp] theorem State.setX_rtcInit (s : State) (i : Fin 8) (v : Long) : (s.setX i v).rtcInit = s.rtcInit := rfl
@[simp] theorem State.setX_rtcQuarter (s : State) (i : Fin 8) (v : Long) : (s.setX i v).rtcQuarter = s.rtcQuarter := rfl
@[simp] theorem State.setX_rtcPrev (s : State) (i : Fin 8) (v : Long) : (s.setX i v).rtcPrev = s.rtcPrev := rfl
@[simp] theorem State.setX_tb1Pre (s : State) (i : Fin 8) (v : Long) : (s.setX i v).tb1Pre = s.tb1Pre := rfl
@[simp] theorem State.setX_twPre (s : State) (i : Fin 8) (v : Long) : (s.setX i v).twPre = s.twPre := rfl
@[simp] theorem State.setX_tb1Load (s : State) (i : Fin 8) (v : Long) : (s.setX i v).tb1Load = s.tb1Load := rfl
@[simp] theorem State.setX_eep (s : State) (i : Fin 8) (v : Long) : (s.setX i v).eep = s.eep := rfl
@[simp] theorem State.setX_eepMem (s : State) (i : Fin 8) (v : Long) : (s.setX i v).eepMem = s.eepMem := rfl
@[simp] theorem State.setX_acc (s : State) (i : Fin 8) (v : Long) : (s.setX i v).acc = s.acc := rfl
@[simp] theorem State.setX_accMem (s : State) (i : Fin 8) (v : Long) : (s.setX i v).accMem = s.accMem := rfl
@[simp] theorem State.setX_lcd (s : State) (i : Fin 8) (v : Long) : (s.setX i v).lcd = s.lcd := rfl
@[simp] theorem State.setX_fb (s : State) (i : Fin 8) (v : Long) : (s.setX i v).fb = s.fb := rfl
@[simp] theorem State.setX_irRx (s : State) (i : Fin 8) (v : Long) : (s.setX i v).irRx = s.irRx := rfl
@[simp] theorem State.setX_fault (s : State) (i : Fin 8) (v : Long) : (s.setX i v).fault = s.fault := rfl
@[simp] theorem State.setX_out (s : State) (i : Fin 8) (v : Long) : (s.setX i v).out = s.out := rfl
@[simp] theorem State.setX_stopRequested (s : State) (i : Fin 8) (v : Long) : (s.setX i v).stopRequested = s.stopRequested := rfl
@[simp] theorem State.setX_runEnded (s : State) (i : Fin 8) (v : Long) : (s.setX i v).runEnded = s.runEnded := rfl
@[simp] theorem State.setX_inputs (s : State) (i : Fin 8) (v : Long) : (s.setX i v).inputs = s.inputs := rfl
@[simp] theorem State.setX_wallNow (s : State) (i : Fin 8) (v : Long) : (s.setX i v).wallNow = s.wallNow := rfl
@[simp] theorem State.setX_wallQueue (s : State) (i : Fin 8) (v : Long) : (s.setX i v).wallQueue = s.wallQueue := rfl
@[simp] theorem State.setX_draws (s : State) (i : Fin 8) (v : Long) : (s.setX i v).draws = s.draws := rfl
@[simp] theorem State.setX_raw (s : State) (i : Fin 8) (v : Long) (c : Addr) : (s.setX i v).raw c = s.raw c := rfl

/-! `setPc` -/

@[simp] theorem State.setPc_cfg (s : State) (a : Addr) : (s.setPc a).cfg = s.cfg := rfl
@[simp] theorem State.setPc_regs (s : State) (a : Addr) : (s.setPc a).regs = s.regs := rfl
@[simp] theorem State.setPc_pc (s : State) (a : Addr) : (s.setPc a).pc = a := rfl
@[simp] theorem State.setPc_ccr (s : State) (a : Addr) : (s.setPc a).ccr = s.ccr := rfl
@[simp] theorem State.setPc_mem (s : State) (a : Addr) : (s.setPc a).mem = s.mem := rfl
@[simp] theorem State.setPc_sleep (s : State) (a : Addr) : (s.setPc a).sleep = s.sleep := rfl
@[simp] theorem State.setPc_savedPC (s : State) (a : Addr) : (s.setPc a).savedPC = s.savedPC := rfl
@[simp] theorem State.setPc_savedCCR (s : State) (a : Addr) : (s.setPc a).savedCCR = s.savedCCR := rfl
@[simp] theorem State.setPc_instrCount (s : State) (a : Addr) : (s.setPc a).instrCount = s.instrCount := rfl
@[simp] theorem State.setPc_cycleIndex (s : State) (a : Addr) : (s.setPc a).cycleIndex = s.cycleIndex := rfl
@[simp] theorem State.setPc_rtcInit (s : State) (a : Addr) : (s.setPc a).rtcInit = s.rtcInit := rfl
@[simp] theorem State.setPc_rtcQuarter (s : State) (a : Addr) : (s.setPc a).rtcQuarter = s.rtcQuarter := rfl
@[simp] theorem State.setPc_rtcPrev (s : State) (a : Addr) : (s.setPc a).rtcPrev = s.rtcPrev := rfl
@[simp] theorem State.setPc_tb1Pre (s : State) (a : Addr) : (s.setPc a).tb1Pre = s.tb1Pre := rfl
@[simp] theorem State.setPc_twPre (s : State) (a : Addr) : (s.setPc a).twPre = s.twPre := rfl
@[simp] theorem State.setPc_tb1Load (s : State) (a : Addr) : (s.setPc a).tb1Load = s.tb1Load := rfl
@[simp] theorem State.setPc_eep (s : State) (a : Addr) : (s.setPc a).eep = s.eep := rfl
@[simp] theorem State.setPc_eepMem (s : State) (a : Addr) : (s.setPc a).eepMem = s.eepMem := rfl
@[simp] theorem State.setPc_acc (s : State) (a : Addr) : (s.setPc a).acc = s.acc := rfl
@[simp] theorem State.setPc_accMem (s : State) (a : Addr) : (s.setPc a).accMem = s.accMem := rfl
@[simp] theorem State.setPc_lcd (s : State) (a : Addr) : (s.setPc a).lcd = s.lcd := rfl
@[simp] theorem State.setPc_fb (s : State) (a : Addr) : (s.setPc a).fb = s.fb := rfl
@[simp] theorem State.setPc_irRx (s : State) (a : Addr) : (s.setPc a).irRx = s.irRx := rfl
@[simp] theorem State.setPc_fault (s : State) (a : Addr) : (s.setPc a).fault = s.fault := rfl
@[simp] theorem State.setPc_out (s : State) (a : Addr) : (s.setPc a).out = s.out := rfl
@[simp] theorem State.setPc_stopRequested (s : State) (a : Addr) : (s.setPc a).stopRequested = s.stopRequested := rfl
@[simp] theorem State.setPc_runEnded (s : State) (a : Addr) : (s.setPc a).runEnded = s.runEnded := rfl
@[simp] theorem State.setPc_inputs (s : State) (a : Addr) : (s.setPc a).inputs = s.inputs := rfl
@[simp] theorem State.setPc_wallNow (s : State) (a : Addr) : (s.setPc a).wallNow = s.wallNow := rfl
@[simp] theorem State.setPc_wallQueue (s : State) (a : Addr) : (s.setPc a).wallQueue = s.wallQueue := rfl
@[simp] theorem State.setPc_draws (s : State) (a : Addr) : (s.setPc a).draws = s.draws := rfl
@[simp] theorem State.setPc_x (s : State) (a : Addr) (j : Fin 8) : (s.setPc a).x j = s.x j := rfl
@[simp] theorem State.setPc_raw (s : State) (a : Addr) (c : Addr) : (s.setPc a).raw c = s.raw c := rfl

/-! `setFlags` -/

@[simp] theorem State.setFlags_cfg (s : State) (f : Ccr → Ccr) : (s.setFlags f).cfg = s.cfg := rfl
@[simp] theorem State.setFlags_regs (s : State) (f : Ccr → Ccr) : (s.setFlags f).regs = s.regs := rfl
@[simp] theorem State.setFlags_pc (s : State) (f : Ccr → Ccr) : (s.setFlags f).pc = s.pc := rfl
@[simp] theorem State.setFlags_ccr (s : State) (f : Ccr → Ccr) : (s.setFlags f).ccr = f s.ccr := rfl
@[simp] theorem State.setFlags_mem (s : State) (f : Ccr → Ccr) : (s.setFlags f).mem = s.mem := rfl
@[simp] theorem State.setFlags_sleep (s : State) (f : Ccr → Ccr) : (s.setFlags f).sleep = s.sleep := rfl
@[simp] theorem State.setFlags_savedPC (s : State) (f : Ccr → Ccr) : (s.setFlags f).savedPC = s.savedPC := rfl
@[simp] theorem State.setFlags_savedCCR (s : State) (f : Ccr → Ccr) : (s.setFlags f).savedCCR = s.savedCCR := rfl
@[simp] theorem State.setFlags_instrCount (s : State) (f : Ccr → Ccr) : (s.setFlags f).instrCount = s.instrCount := rfl
@[simp] theorem State.setFlags_cycleIndex (s : State) (f : Ccr → Ccr) : (s.setFlags f).cycleIndex = s.cycleIndex := rfl
@[simp] theorem State.setFlags_rtcInit (s : State) (f : Ccr → Ccr) : (s.setFlags f).rtcInit = s.rtcInit := rfl
@[simp] theorem State.setFlags_rtcQuarter (s : State) (f : Ccr → Ccr) : (s.setFlags f).rtcQuarter = s.rtcQuarter := rfl
@[simp] theorem State.setFlags_rtcPrev (s : State) (f : Ccr → Ccr) : (s.setFlags f).rtcPrev = s.rtcPrev := rfl
@[simp] theorem State.setFlags_tb1Pre (s : State) (f : Ccr → Ccr) : (s.setFlags f).tb1Pre = s.tb1Pre := rfl
@[simp] theorem State.setFlags_twPre (s : State) (f : Ccr → Ccr) : (s.setFlags f).twPre = s.twPre := rfl
@[simp] theorem State.setFlags_tb1Load (s : State) (f : Ccr → Ccr) : (s.setFlags f).tb1Load = s.tb1Load := rfl
@[simp] theorem State.setFlags_eep (s : State) (f : Ccr → Ccr) : (s.setFlags f).eep = s.eep := rfl
@[simp] theorem State.setFlags_eepMem (s : State) (f : Ccr → Ccr) : (s.setFlags f).eepMem = s.eepMem := rfl
@[simp] theorem State.setFlags_acc (s : State) (f : Ccr → Ccr) : (s.setFlags f).acc = s.acc := rfl
@[simp] theorem State.setFlags_accMem (s : State) (f : Ccr → Ccr) : (s.setFlags f).accMem = s.accMem := rfl
@[simp] theorem State.setFlags_lcd (s : State) (f : Ccr → Ccr) : (s.setFlags f).lcd = s.lcd := rfl
@[simp] theorem State.setFlags_fb (s : State) (f : Ccr → Ccr) : (s.setFlags f).fb = s.fb := rfl
@[simp] theorem State.setFlags_irRx (s : State) (f : Ccr → Ccr) : (s.setFlags f).irRx = s.irRx := rfl
@[simp] theorem State.setFlags_fault (s : State) (f : Ccr → Ccr) : (s.setFlags f).fault = s.fault := rfl
@[simp] theorem State.setFlags_out (s : State) (f : Ccr → Ccr) : (s.setFlags f).out = s.out := rfl
@[simp] theorem State.setFlags_stopRequested (s : State) (f : Ccr → Ccr) : (s.setFlags f).stopRequested = s.stopRequested := rfl
@[simp] theorem State.setFlags_runEnded (s : State) (f : Ccr → Ccr) : (s.setFlags f).runEnded = s.runEnded := rfl
@[simp] theorem State.setFlags_inputs (s : State) (f : Ccr → Ccr) : (s.setFlags f).inputs = s.inputs := rfl
@[simp] theorem State.setFlags_wallNow (s : State) (f : Ccr → Ccr) : (s.setFlags f).wallNow = s.wallNow := rfl
@[simp] theorem State.setFlags_wallQueue (s : State) (f : Ccr → Ccr) : (s.setFlags f).wallQueue = s.wallQueue := rfl
@[simp] theorem State.setFlags_draws (s : State) (f : Ccr → Ccr) : (s.setFlags f).draws = s.draws := rfl
@[simp] theorem State.setFlags_x (s : State) (f : Ccr → Ccr) (j : Fin 8) : (s.setFlags f).x j = s.x j := rfl
@[simp] theorem State.setFlags_raw (s : State) (f : Ccr → Ccr) (c : Addr) : (s.setFlags f).raw c = s.raw c := rfl

/-! `rawSet` -/

@[simp] theorem State.rawSet_cfg (s : State) (a : Addr) (b : Byte) : (s.rawSet a b).cfg = s.cfg := rfl
@[simp] theorem State.rawSet_regs (s : State) (a : Addr) (b : Byte) : (s.rawSet a b).regs = s.regs := rfl
@[simp] theorem State.rawSet_pc (s : State) (a : Addr) (b : Byte) : (s.rawSet a b).pc = s.pc := rfl
@[simp] theorem State.rawSet_ccr (s : State) (a : Addr) (b : Byte) : (s.rawSet a b).ccr = s.ccr := rfl
@[simp] theorem State.rawSet_mem (s : State) (a : Addr) (b : Byte) : (s.rawSet a b).mem = s.mem.setByte a b := rfl
@[simp] theorem State.rawSet_sleep (s : State) (a : Addr) (b : Byte) : (s.rawSet a b).sleep = s.sleep := rfl
@[simp] theorem State.rawSet_savedPC (s : State) (a : Addr) (b : Byte) : (s.rawSet a b).savedPC = s.savedPC := rfl
@[simp] theorem State.rawSet_savedCCR (s : State) (a : Addr) (b : Byte) : (s.rawSet a b).savedCCR = s.savedCCR := rfl
@[simp] theorem State.rawSet_instrCount (s : State) (a : Addr) (b : Byte) : (s.rawSet a b).instrCount = s.instrCount := rfl
@[simp] theorem State.rawSet_cycleIndex (s : State) (a : Addr) (b : Byte) : (s.rawSet a b).cycleIndex = s.cycleIndex := rfl
@[simp] theorem State.rawSet_rtcInit (s : State) (a : Addr) (b : Byte) : (s.rawSet a b).rtcInit = s.rtcInit := rfl
@[simp] theorem State.rawSet_rtcQuarter (s : State) (a : Addr) (b : Byte) : (s.rawSet a b).rtcQuarter = s.rtcQuarter := rfl
@[simp] theorem State.rawSet_rtcPrev (s : State) (a : Addr) (b : Byte) : (s.rawSet a b).rtcPrev = s.rtcPrev := rfl
@[simp] theorem State.rawSet_tb1Pre (s : State) (a : Addr) (b : Byte) : (s.rawSet a b).tb1Pre = s.tb1Pre := rfl
@[simp] theorem State.rawSet_twPre (s : State) (a : Addr) (b : Byte) : (s.rawSet a b).twPre = s.twPre := rfl
@[simp] theorem State.rawSet_tb1Load (s : State) (a : Addr) (b : Byte) : (s.rawSet a b).tb1Load = s.tb1Load := rfl
@[simp] theorem State.rawSet_eep (s : State) (a : Addr) (b : Byte) : (s.rawSet a b).eep = s.eep := rfl
@[simp] theorem State.rawSet_eepMem (s : State) (a : Addr) (b : Byte) : (s.rawSet a b).eepMem = s.eepMem := rfl
@[simp] theorem State.rawSet_acc (s : State) (a : Addr) (b : Byte) : (s.rawSet a b).acc = s.acc := rfl
@[simp] theorem State.rawSet_accMem (s : State) (a : Addr) (b : Byte) : (s.rawSet a b).accMem = s.accMem := rfl
@[simp] theorem State.rawSet_lcd (s : State) (a : Addr) (b : Byte) : (s.rawSet a b).lcd = s.lcd := rfl
@[simp] theorem State.rawSet_fb (s : State) (a : Addr) (b : Byte) : (s.rawSet a b).fb = s.fb := rfl
@[simp] theorem State.rawSet_irRx (s : State) (a : Addr) (b : Byte) : (s.rawSet a b).irRx = s.irRx := rfl
@[simp] theorem State.rawSet_fault (s : State) (a : Addr) (b : Byte) : (s.rawSet a b).fault = s.fault := rfl
@[simp] theorem State.rawSet_out (s : State) (a : Addr) (b : Byte) : (s.rawSet a b).out = s.out := rfl
@[simp] theorem State.rawSet_stopRequested (s : State) (a : Addr) (b : Byte) : (s.rawSet a b).stopRequested = s.stopRequested := rfl
@[simp] theorem State.rawSet_runEnded (s : State) (a : Addr) (b : Byte) : (s.rawSet a b).runEnded = s.runEnded := rfl
@[simp] theorem State.rawSet_inputs (s : State) (a : Addr) (b : Byte) : (s.rawSet a b).inputs = s.inputs := rfl
@[simp] theorem State.rawSet_wallNow (s : State) (a : Addr) (b : Byte) : (s.rawSet a b).wallNow = s.wallNow := rfl
@[simp] theorem State.rawSet_wallQueue (s : State) (a : Addr) (b : Byte) : (s.rawSet a b).wallQueue = s.wallQueue := rfl
@[simp] theorem State.rawSet_draws (s : State) (a : Addr) (b : Byte) : (s.rawSet a b).draws = s.draws := rfl
@[simp] theorem State.rawSet_x (s : State) (a : Addr) (b : Byte) (j : Fin 8) : (s.rawSet a b).x j = s.x j := rfl

/-! `setBit` -/

@[simp] theorem State.setBit_cfg (s : State) (f : BitLoc) (v : Bool) : (s.setBit f v).cfg = s.cfg := rfl
@[simp] theorem State.setBit_regs (s : State) (f : BitLoc) (v : Bool) : (s.setBit f v).regs = s.regs := rfl
@[simp] theorem State.setBit_pc (s : State) (f : BitLoc) (v : Bool) : (s.setBit f v).pc = s.pc := rfl
@[simp] theorem State.setBit_ccr (s : State) (f : BitLoc) (v : Bool) : (s.setBit f v).ccr = s.ccr := rfl
@[simp] theorem State.setBit_mem (s : State) (f : BitLoc) (v : Bool) : (s.setBit f v).mem = s.mem.setBit f v := rfl
@[simp] theorem State.setBit_sleep (s : State) (f : BitLoc) (v : Bool) : (s.setBit f v).sleep = s.sleep := rfl
@[simp] theorem State.setBit_savedPC (s : State) (f : BitLoc) (v : Bool) : (s.setBit f v).savedPC = s.savedPC := rfl
@[simp] theorem State.setBit_savedCCR (s : State) (f : BitLoc) (v : Bool) : (s.setBit f v).savedCCR = s.savedCCR := rfl
@[simp] theorem State.setBit_instrCount (s : State) (f : BitLoc) (v : Bool) : (s.setBit f v).instrCount = s.instrCount := rfl
@[simp] theorem State.setBit_cycleIndex (s : State) (f : BitLoc) (v : Bool) : (s.setBit f v).cycleIndex = s.cycleIndex := rfl
@[simp] theorem State.setBit_rtcInit (s : State) (f : BitLoc) (v : Bool) : (s.setBit f v).rtcInit = s.rtcInit := rfl
@[simp] theorem State.setBit_rtcQuarter (s : State) (f : BitLoc) (v : Bool) : (s.setBit f v).rtcQuarter = s.rtcQuarter := rfl
@[simp] theorem State.setBit_rtcPrev (s : State) (f : BitLoc) (v : Bool) : (s.setBit f v).rtcPrev = s.rtcPrev := rfl
@[simp] theorem State.setBit_tb1Pre (s : State) (f : BitLoc) (v : Bool) : (s.setBit f v).tb1Pre = s.tb1Pre := rfl
@[simp] theorem State.setBit_twPre (s : State) (f : BitLoc) (v : Bool) : (s.setBit f v).twPre = s.twPre := rfl
@[simp] theorem State.setBit_tb1Load (s : State) (f : BitLoc) (v : Bool) : (s.setBit f v).tb1Load = s.tb1Load := rfl
@[simp] theorem State.setBit_eep (s : State) (f : BitLoc) (v : Bool) : (s.setBit f v).eep = s.eep := rfl
@[simp] theorem State.setBit_eepMem (s : State) (f : BitLoc) (v : Bool) : (s.setBit f v).eepMem = s.eepMem := rfl
@[simp] theorem State.setBit_acc (s : State) (f : BitLoc) (v : Bool) : (s.setBit f v).acc = s.acc := rfl
@[simp] theorem State.setBit_accMem (s : State) (f : BitLoc) (v : Bool) : (s.setBit f v).accMem = s.accMem := rfl
@[simp] theorem State.setBit_lcd (s : State) (f : BitLoc) (v : Bool) : (s.setBit f v).lcd = s.lcd := rfl
@[simp] theorem State.setBit_fb (s : State) (f : BitLoc) (v : Bool) : (s.setBit f v).fb = s.fb := rfl
@[simp] theorem State.setBit_irRx (s : State) (f : BitLoc) (v : Bool) : (s.setBit f v).irRx = s.irRx := rfl
@[simp] theorem State.setBit_fault (s : State) (f : BitLoc) (v : Bool) : (s.setBit f v).fault = s.fault := rfl
@[simp] theorem State.setBit_out (s : State) (f : BitLoc) (v : Bool) : (s.setBit f v).out = s.out := rfl
@[simp] theorem State.setBit_stopRequested (s : State) (f : BitLoc) (v : Bool) : (s.setBit f v).stopRequested = s.stopRequested := rfl
@[simp] theorem State.setBit_runEnded (s : State) (f : BitLoc) (v : Bool) : (s.setBit f v).runEnded = s.runEnded := rfl
@[simp] theorem State.setBit_inputs (s : State) (f : BitLoc) (v : Bool) : (s.setBit f v).inputs = s.inputs := rfl
@[simp] theorem State.setBit_wallNow (s : State) (f : BitLoc) (v : Bool) : (s.setBit f v).wallNow = s.wallNow := rfl
@[simp] theorem State.setBit_wallQueue (s : State) (f : BitLoc) (v : Bool) : (s.setBit f v).wallQueue = s.wallQueue := rfl
@[simp] theorem State.setBit_draws (s : State) (f : BitLoc) (v : Bool) : (s.setBit f v).draws = s.draws := rfl
@[simp] theorem State.setBit_x (s : State) (f : BitLoc) (v : Bool) (j : Fin 8) : (s.setBit f v).x j = s.x j := rfl

/-! `emit` -/

@[simp] theorem State.emit_cfg (s : State) (e : Event) : (s.emit e).cfg = s.cfg := rfl
@[simp] theorem State.emit_regs (s : State) (e : Event) : (s.emit e).regs = s.regs := rfl
@[simp] theorem State.emit_pc (s : State) (e : Event) : (s.emit e).pc = s.pc := rfl
@[simp] theorem State.emit_ccr (s : State) (e : Event) : (s.emit e).ccr = s.ccr := rfl
@[simp] theorem State.emit_mem (s : State) (e : Event) : (s.emit e).mem = s.mem := rfl
@[simp] theorem State.emit_sleep (s : State) (e : Event) : (s.emit e).sleep = s.sleep := rfl
@[simp] theorem State.emit_savedPC (s : State) (e : Event) : (s.emit e).savedPC = s.savedPC := rfl
@[simp] theorem State.emit_savedCCR (s : State) (e : Event) : (s.emit e).savedCCR = s.savedCCR := rfl
@[simp] theorem State.emit_instrCount (s : State) (e : Event) : (s.emit e).instrCount = s.instrCount := rfl
@[simp] theorem State.emit_cycleIndex (s : State) (e : Event) : (s.emit e).cycleIndex = s.cycleIndex := rfl
@[simp] theorem State.emit_rtcInit (s : State) (e : Event) : (s.emit e).rtcInit = s.rtcInit := rfl
@[simp] theorem State.emit_rtcQuarter (s : State) (e : Event) : (s.emit e).rtcQuarter = s.rtcQuarter := rfl
@[simp] theorem State.emit_rtcPrev (s : State) (e : Event) : (s.emit e).rtcPrev = s.rtcPrev := rfl
@[simp] theorem State.emit_tb1Pre (s : State) (e : Event) : (s.emit e).tb1Pre = s.tb1Pre := rfl
@[simp] theorem State.emit_twPre (s : State) (e : Event) : (s.emit e).twPre = s.twPre := rfl
@[simp] theorem State.emit_tb1Load (s : State) (e : Event) : (s.emit e).tb1Load = s.tb1Load := rfl
@[simp] theorem State.emit_eep (s : State) (e : Event) : (s.emit e).eep = s.eep := rfl
@[simp] theorem State.emit_eepMem (s : State) (e : Event) : (s.emit e).eepMem = s.eepMem := rfl
@[simp] theorem State.emit_acc (s : State) (e : Event) : (s.emit e).acc = s.acc := rfl
@[simp] theorem State.emit_accMem (s : State) (e : Event) : (s.emit e).accMem = s.accMem := rfl
@[simp] theorem State.emit_lcd (s : State) (e : Event) : (s.emit e).lcd = s.lcd := rfl
@[simp] theorem State.emit_fb (s : State) (e : Event) : (s.emit e).fb = s.fb := rfl
@[simp] theorem State.emit_irRx (s : State) (e : Event) : (s.emit e).irRx = s.irRx := rfl
@[simp] theorem State.emit_fault (s : State) (e : Event) : (s.emit e).fault = s.fault := rfl
@[simp] theorem State.emit_out (s : State) (e : Event) : (s.emit e).out = s.out ++ [e] := rfl
@[simp] theorem State.emit_stopRequested (s : State) (e : Event) : (s.emit e).stopRequested = s.stopRequested := rfl
@[simp] theorem State.emit_runEnded (s : State) (e : Event) : (s.emit e).runEnded = s.runEnded := rfl
@[simp] theorem State.emit_inputs (s : State) (e : Event) : (s.emit e).inputs = s.inputs := rfl
@[simp] theorem State.emit_wallNow (s : State) (e : Event) : (s.emit e).wallNow = s.wallNow := rfl
@[simp] theorem State.emit_wallQueue (s : State) (e : Event) : (s.emit e).wallQueue = s.wallQueue := rfl
@[simp] theorem State.emit_draws (s : State) (e : Event) : (s.emit e).draws = s.draws := rfl
@[simp] theorem State.emit_x (s : State) (e : Event) (j : Fin 8) : (s.emit e).x j = s.x j := rfl
@[simp] theorem State.emit_raw (s : State) (e : Event) (c : Addr) : (s.emit e).raw c = s.raw c := rfl

/-! `raise` -/

@[simp] theorem State.raise_cfg (s : State) (k : FaultKind) (ks : Option DecodeKeys) : (s.raise k ks).cfg = s.cfg := rfl
@[simp] theorem State.raise_regs (s : State) (k : FaultKind) (ks : Option DecodeKeys) : (s.raise k ks).regs = s.regs := rfl
@[simp] theorem State.raise_pc (s : State) (k : FaultKind) (ks : Option DecodeKeys) : (s.raise k ks).pc = s.pc := rfl
@[simp] theorem State.raise_ccr (s : State) (k : FaultKind) (ks : Option DecodeKeys) : (s.raise k ks).ccr = s.ccr := rfl
@[simp] theorem State.raise_mem (s : State) (k : FaultKind) (ks : Option DecodeKeys) : (s.raise k ks).mem = s.mem := rfl
@[simp] theorem State.raise_sleep (s : State) (k : FaultKind) (ks : Option DecodeKeys) : (s.raise k ks).sleep = s.sleep := rfl
@[simp] theorem State.raise_savedPC (s : State) (k : FaultKind) (ks : Option DecodeKeys) : (s.raise k ks).savedPC = s.savedPC := rfl
@[simp] theorem State.raise_savedCCR (s : State) (k : FaultKind) (ks : Option DecodeKeys) : (s.raise k ks).savedCCR = s.savedCCR := rfl
@[simp] theorem State.raise_instrCount (s : State) (k : FaultKind) (ks : Option DecodeKeys) : (s.raise k ks).instrCount = s.instrCount := rfl
@[simp] theorem State.raise_cycleIndex (s : State) (k : FaultKind) (ks : Option DecodeKeys) : (s.raise k ks).cycleIndex = s.cycleIndex := rfl
@[simp] theorem State.raise_rtcInit (s : State) (k : FaultKind) (ks : Option DecodeKeys) : (s.raise k ks).rtcInit = s.rtcInit := rfl
@[simp] theorem State.raise_rtcQuarter (s : State) (k : FaultKind) (ks : Option DecodeKeys) : (s.raise k ks).rtcQuarter = s.rtcQuarter := rfl
@[simp] theorem State.raise_rtcPrev (s : State) (k : FaultKind) (ks : Option DecodeKeys) : (s.raise k ks).rtcPrev = s.rtcPrev := rfl
@[simp] theorem State.raise_tb1Pre (s : State) (k : FaultKind) (ks : Option DecodeKeys) : (s.raise k ks).tb1Pre = s.tb1Pre := rfl
@[simp] theorem State.raise_twPre (s : State) (k : FaultKind) (ks : Option DecodeKeys) : (s.raise k ks).twPre = s.twPre := rfl
@[simp] theorem State.raise_tb1Load (s : State) (k : FaultKind) (ks : Option DecodeKeys) : (s.raise k ks).tb1Load = s.tb1Load := rfl
@[simp] theorem State.raise_eep (s : State) (k : FaultKind) (ks : Option DecodeKeys) : (s.raise k ks).eep = s.eep := rfl
@[simp] theorem State.raise_eepMem (s : State) (k : FaultKind) (ks : Option DecodeKeys) : (s.raise k ks).eepMem = s.eepMem := rfl
@[simp] theorem State.raise_acc (s : State) (k : FaultKind) (ks : Option DecodeKeys) : (s.raise k ks).acc = s.acc := rfl
@[simp] theorem State.raise_accMem (s : State) (k : FaultKind) (ks : Option DecodeKeys) : (s.raise k ks).accMem = s.accMem := rfl
@[simp] theorem State.raise_lcd (s : State) (k : FaultKind) (ks : Option DecodeKeys) : (s.raise k ks).lcd = s.lcd := rfl
@[simp] theorem State.raise_fb (s : State) (k : FaultKind) (ks : Option DecodeKeys) : (s.raise k ks).fb = s.fb := rfl
@[simp] theorem State.raise_irRx (s : State) (k : FaultKind) (ks : Option DecodeKeys) : (s.raise k ks).irRx = s.irRx := rfl
@[simp] theorem State.raise_fault (s : State) (k : FaultKind) (ks : Option DecodeKeys) : (s.raise k ks).fault = some ⟨k, ks, s.instrCount, s.pc⟩ := rfl
@[simp] theorem State.raise_out (s : State) (k : FaultKind) (ks : Option DecodeKeys) : (s.raise k ks).out = s.out := rfl
@[simp] theorem State.raise_stopRequested (s : State) (k : FaultKind) (ks : Option DecodeKeys) : (s.raise k ks).stopRequested = s.stopRequested := rfl
@[simp] theorem State.raise_runEnded (s : State) (k : FaultKind) (ks : Option DecodeKeys) : (s.raise k ks).runEnded = s.runEnded := rfl
@[simp] theorem State.raise_inputs (s : State) (k : FaultKind) (ks : Option DecodeKeys) : (s.raise k ks).inputs = s.inputs := rfl
@[simp] theorem State.raise_wallNow (s : State) (k : FaultKind) (ks : Option DecodeKeys) : (s.raise k ks).wallNow = s.wallNow := rfl
@[simp] theorem State.raise_wallQueue (s : State) (k : FaultKind) (ks : Option DecodeKeys) : (s.raise k ks).wallQueue = s.wallQueue := rfl
@[simp] theorem State.raise_draws (s : State) (k : FaultKind) (ks : Option DecodeKeys) : (s.raise k ks).draws = s.draws := rfl
@[simp] theorem State.raise_x (s : State) (k : FaultKind) (ks : Option DecodeKeys) (j : Fin 8) : (s.raise k ks).x j = s.x j := rfl
@[simp] theorem State.raise_raw (s : State) (k : FaultKind) (ks : Option DecodeKeys) (c : Addr) : (s.raise k ks).raw c = s.raw c := rfl

/-! `interrupt` -/

@[simp] theorem State.interrupt_cfg (s : State) (vec : Addr) : (s.interrupt vec).cfg = s.cfg := rfl
@[simp] theorem State.interrupt_regs (s : State) (vec : Addr) : (s.interrupt vec).regs = s.regs := rfl
@[simp] theorem State.interrupt_pc (s : State) (vec : Addr) : (s.interrupt vec).pc = s.raw16 vec := rfl
@[simp] theorem State.interrupt_ccr (s : State) (vec : Addr) : (s.interrupt vec).ccr = { s.ccr with i := true } := rfl
@[simp] theorem State.interrupt_mem (s : State) (vec : Addr) : (s.interrupt vec).mem = s.mem := rfl
@[simp] theorem State.interrupt_sleep (s : State) (vec : Addr) : (s.interrupt vec).sleep = false := rfl
@[simp] theorem State.interrupt_savedPC (s : State) (vec : Addr) : (s.interrupt vec).savedPC = s.pc := rfl
@[simp] theorem State.interrupt_savedCCR (s : State) (vec : Addr) : (s.interrupt vec).savedCCR = s.ccr.pack := rfl
@[simp] theorem State.interrupt_instrCount (s : State) (vec : Addr) : (s.interrupt vec).instrCount = s.instrCount := rfl
@[simp] theorem State.interrupt_cycleIndex (s : State) (vec : Addr) : (s.interrupt vec).cycleIndex = s.cycleIndex := rfl
@[simp] theorem State.interrupt_rtcInit (s : State) (vec : Addr) : (s.interrupt vec).rtcInit = s.rtcInit := rfl
@[simp] theorem State.interrupt_rtcQuarter (s : State) (vec : Addr) : (s.interrupt vec).rtcQuarter = s.rtcQuarter := rfl
@[simp] theorem State.interrupt_rtcPrev (s : State) (vec : Addr) : (s.interrupt vec).rtcPrev = s.rtcPrev := rfl
@[simp] theorem State.interrupt_tb1Pre (s : State) (vec : Addr) : (s.interrupt vec).tb1Pre = s.tb1Pre := rfl
@[simp] theorem State.interrupt_twPre (s : State) (vec : Addr) : (s.interrupt vec).twPre = s.twPre := rfl
@[simp] theorem State.interrupt_tb1Load (s : State) (vec : Addr) : (s.interrupt vec).tb1Load = s.tb1Load := rfl
@[simp] theorem State.interrupt_eep (s : State) (vec : Addr) : (s.interrupt vec).eep = s.eep := rfl
@[simp] theorem State.interrupt_eepMem (s : State) (vec : Addr) : (s.interrupt vec).eepMem = s.eepMem := rfl
@[simp] theorem State.interrupt_acc (s : State) (vec : Addr) : (s.interrupt vec).acc = s.acc := rfl
@[simp] theorem State.interrupt_accMem (s : State) (vec : Addr) : (s.interrupt vec).accMem = s.accMem := rfl
@[simp] theorem State.interrupt_lcd (s : State) (vec : Addr) : (s.interrupt vec).lcd = s.lcd := rfl
@[simp] theorem State.interrupt_fb (s : State) (vec : Addr) : (s.interrupt vec).fb = s.fb := rfl
@[simp] theorem State.interrupt_irRx (s : State) (vec : Addr) : (s.interrupt vec).irRx = s.irRx := rfl
@[simp] theorem State.interrupt_fault (s : State) (vec : Addr) : (s.interrupt vec).fault = s.fault := rfl
@[simp] theorem State.interrupt_out (s : State) (vec : Addr) : (s.interrupt vec).out = s.out := rfl
@[simp] theorem State.interrupt_stopRequested (s : State) (vec : Addr) : (s.interrupt vec).stopRequested = s.stopRequested := rfl
@[simp] theorem State.interrupt_runEnded (s : State) (vec : Addr) : (s.interrupt vec).runEnded = s.runEnded := rfl
@[simp] theorem State.interrupt_inputs (s : State) (vec : Addr) : (s.interrupt vec).inputs = s.inputs := rfl
@[simp] theorem State.interrupt_wallNow (s : State) (vec : Addr) : (s.interrupt vec).wallNow = s.wallNow := rfl
@[simp] theorem State.interrupt_wallQueue (s : State) (vec : Addr) : (s.interrupt vec).wallQueue = s.wallQueue := rfl
@[simp] theorem State.interrupt_draws (s : State) (vec : Addr) : (s.interrupt vec).draws = s.draws := rfl
@[simp] theorem State.interrupt_x (s : State) (vec : Addr) (j : Fin 8) : (s.interrupt vec).x j = s.x j := rfl
@[simp] theorem State.interrupt_raw (s : State) (vec : Addr) (c : Addr) : (s.interrupt vec).raw c = s.raw c := rfl

/-! `interruptReturn` -/

@[simp] theorem State.interruptReturn_cfg (s : State) : (s.interruptReturn).cfg = s.cfg := rfl
@[simp] theorem State.interruptReturn_regs (s : State) : (s.interruptReturn).regs = s.regs := rfl
@[simp] theorem State.interruptReturn_pc (s : State) : (s.interruptReturn).pc = s.savedPC := rfl
@[simp] theorem State.interruptReturn_ccr (s : State) : (s.interruptReturn).ccr = Ccr.ofByte s.savedCCR := rfl
@[simp] theorem State.interruptReturn_mem (s : State) : (s.interruptReturn).mem = s.mem := rfl
@[simp] theorem State.interruptReturn_sleep (s : State) : (s.interruptReturn).sleep = s.sleep := rfl
@[simp] theorem State.interruptReturn_savedPC (s : State) : (s.interruptReturn).savedPC = s.savedPC := rfl
@[simp] theorem State.interruptReturn_savedCCR (s : State) : (s.interruptReturn).savedCCR = s.savedCCR := rfl
@[simp] theorem State.interruptReturn_instrCount (s : State) : (s.interruptReturn).instrCount = s.instrCount := rfl
@[simp] theorem State.interruptReturn_cycleIndex (s : State) : (s.interruptReturn).cycleIndex = s.cycleIndex := rfl
@[simp] theorem State.interruptReturn_rtcInit (s : State) : (s.interruptReturn).rtcInit = s.rtcInit := rfl
@[simp] theorem State.interruptReturn_rtcQuarter (s : State) : (s.interruptReturn).rtcQuarter = s.rtcQuarter := rfl
@[simp] theorem State.interruptReturn_rtcPrev (s : State) : (s.interruptReturn).rtcPrev = s.rtcPrev := rfl
@[simp] theorem State.interruptReturn_tb1Pre (s : State) : (s.interruptReturn).tb1Pre = s.tb1Pre := rfl
@[simp] theorem State.interruptReturn_twPre (s : State) : (s.interruptReturn).twPre = s.twPre := rfl
@[simp] theorem State.interruptReturn_tb1Load (s : State) : (s.interruptReturn).tb1Load = s.tb1Load := rfl
@[simp] theorem State.interruptReturn_eep (s : State) : (s.interruptReturn).eep = s.eep := rfl
@[simp] theorem State.interruptReturn_eepMem (s : State) : (s.interruptReturn).eepMem = s.eepMem := rfl
@[simp] theorem State.interruptReturn_acc (s : State) : (s.interruptReturn).acc = s.acc := rfl
@[simp] theorem State.interruptReturn_accMem (s : State) : (s.interruptReturn).accMem = s.accMem := rfl
@[simp] theorem State.interruptReturn_lcd (s : State) : (s.interruptReturn).lcd = s.lcd := rfl
@[simp] theorem State.interruptReturn_fb (s : State) : (s.interruptReturn).fb = s.fb := rfl
@[simp] theorem State.interruptReturn_irRx (s : State) : (s.interruptReturn).irRx = s.irRx := rfl
@[simp] theorem State.interruptReturn_fault (s : State) : (s.interruptReturn).fault = s.fault := rfl
@[simp] theorem State.interruptReturn_out (s : State) : (s.interruptReturn).out = s.out := rfl
@[simp] theorem State.interruptReturn_stopRequested (s : State) : (s.interruptReturn).stopRequested = s.stopRequested := rfl
@[simp] theorem State.interruptReturn_runEnded (s : State) : (s.interruptReturn).runEnded = s.runEnded := rfl
@[simp] theorem State.interruptReturn_inputs (s : State) : (s.interruptReturn).inputs = s.inputs := rfl
@[simp] theorem State.interruptReturn_wallNow (s : State) : (s.interruptReturn).wallNow = s.wallNow := rfl
@[simp] theorem State.interruptReturn_wallQueue (s : State) : (s.interruptReturn).wallQueue = s.wallQueue := rfl
@[simp] theorem State.interruptReturn_draws (s : State) : (s.interruptReturn).draws = s.draws := rfl
@[simp] theorem State.interruptReturn_x (s : State) (j : Fin 8) : (s.interruptReturn).x j = s.x j := rfl
@[simp] theorem State.interruptReturn_raw (s : State) (c : Addr) : (s.interruptReturn).raw c = s.raw c := rfl

@[simp] theorem State.drawBool_value (s : State) : s.drawBool.1 = Config.freeBool s.draws := rfl
/-! `drawBool` -/

@[simp] theorem State.drawBool_cfg (s : State) : (s.drawBool.2).cfg = s.cfg := rfl
@[simp] theorem State.drawBool_regs (s : State) : (s.drawBool.2).regs = s.regs := rfl
@[simp] theorem State.drawBool_pc (s : State) : (s.drawBool.2).pc = s.pc := rfl
@[simp] theorem State.drawBool_ccr (s : State) : (s.drawBool.2).ccr = s.ccr := rfl
@[simp] theorem State.drawBool_mem (s : State) : (s.drawBool.2).mem = s.mem := rfl
@[simp] theorem State.drawBool_sleep (s : State) : (s.drawBool.2).sleep = s.sleep := rfl
@[simp] theorem State.drawBool_savedPC (s : State) : (s.drawBool.2).savedPC = s.savedPC := rfl
@[simp] theorem State.drawBool_savedCCR (s : State) : (s.drawBool.2).savedCCR = s.savedCCR := rfl
@[simp] theorem State.drawBool_instrCount (s : State) : (s.drawBool.2).instrCount = s.instrCount := rfl
@[simp] theorem State.drawBool_cycleIndex (s : State) : (s.drawBool.2).cycleIndex = s.cycleIndex := rfl
@[simp] theorem State.drawBool_rtcInit (s : State) : (s.drawBool.2).rtcInit = s.rtcInit := rfl
@[simp] theorem State.drawBool_rtcQuarter (s : State) : (s.drawBool.2).rtcQuarter = s.rtcQuarter := rfl
@[simp] theorem State.drawBool_rtcPrev (s : State) : (s.drawBool.2).rtcPrev = s.rtcPrev := rfl
@[simp] theorem State.drawBool_tb1Pre (s : State) : (s.drawBool.2).tb1Pre = s.tb1Pre := rfl
@[simp] theorem State.drawBool_twPre (s : State) : (s.drawBool.2).twPre = s.twPre := rfl
@[simp] theorem State.drawBool_tb1Load (s : State) : (s.drawBool.2).tb1Load = s.tb1Load := rfl
@[simp] theorem State.drawBool_eep (s : State) : (s.drawBool.2).eep = s.eep := rfl
@[simp] theorem State.drawBool_eepMem (s : State) : (s.drawBool.2).eepMem = s.eepMem := rfl
@[simp] theorem State.drawBool_acc (s : State) : (s.drawBool.2).acc = s.acc := rfl
@[simp] theorem State.drawBool_accMem (s : State) : (s.drawBool.2).accMem = s.accMem := rfl
@[simp] theorem State.drawBool_lcd (s : State) : (s.drawBool.2).lcd = s.lcd := rfl
@[simp] theorem State.drawBool_fb (s : State) : (s.drawBool.2).fb = s.fb := rfl
@[simp] theorem State.drawBool_irRx (s : State) : (s.drawBool.2).irRx = s.irRx := rfl
@[simp] theorem State.drawBool_fault (s : State) : (s.drawBool.2).fault = s.fault := rfl
@[simp] theorem State.drawBool_out (s : State) : (s.drawBool.2).out = s.out := rfl
@[simp] theorem State.drawBool_stopRequested (s : State) : (s.drawBool.2).stopRequested = s.stopRequested := rfl
@[simp] theorem State.drawBool_runEnded (s : State) : (s.drawBool.2).runEnded = s.runEnded := rfl
@[simp] theorem State.drawBool_inputs (s : State) : (s.drawBool.2).inputs = s.inputs := rfl
@[simp] theorem State.drawBool_wallNow (s : State) : (s.drawBool.2).wallNow = s.wallNow := rfl
@[simp] theorem State.drawBool_wallQueue (s : State) : (s.drawBool.2).wallQueue = s.wallQueue := rfl
@[simp] theorem State.drawBool_draws (s : State) : (s.drawBool.2).draws = s.draws + 1 := rfl
@[simp] theorem State.drawBool_x (s : State) (j : Fin 8) : (s.drawBool.2).x j = s.x j := rfl
@[simp] theorem State.drawBool_raw (s : State) (c : Addr) : (s.drawBool.2).raw c = s.raw c := rfl

@[simp] theorem State.drawByte_value (s : State) : s.drawByte.1 = Config.freeByte s.draws := rfl
/-! `drawByte` -/

@[simp] theorem State.drawByte_cfg (s : State) : (s.drawByte.2).cfg = s.cfg := rfl
@[simp] theorem State.drawByte_regs (s : State) : (s.drawByte.2).regs = s.regs := rfl
@[simp] theorem State.drawByte_pc (s : State) : (s.drawByte.2).pc = s.pc := rfl
@[simp] theorem State.drawByte_ccr (s : State) : (s.drawByte.2).ccr = s.ccr := rfl
@[simp] theorem State.drawByte_mem (s : State) : (s.drawByte.2).mem = s.mem := rfl
@[simp] theorem State.drawByte_sleep (s : State) : (s.drawByte.2).sleep = s.sleep := rfl
@[simp] theorem State.drawByte_savedPC (s : State) : (s.drawByte.2).savedPC = s.savedPC := rfl
@[simp] theorem State.drawByte_savedCCR (s : State) : (s.drawByte.2).savedCCR = s.savedCCR := rfl
@[simp] theorem State.drawByte_instrCount (s : State) : (s.drawByte.2).instrCount = s.instrCount := rfl
@[simp] theorem State.drawByte_cycleIndex (s : State) : (s.drawByte.2).cycleIndex = s.cycleIndex := rfl
@[simp] theorem State.drawByte_rtcInit (s : State) : (s.drawByte.2).rtcInit = s.rtcInit := rfl
@[simp] theorem State.drawByte_rtcQuarter (s : State) : (s.drawByte.2).rtcQuarter = s.rtcQuarter := rfl
@[simp] theorem State.drawByte_rtcPrev (s : State) : (s.drawByte.2).rtcPrev = s.rtcPrev := rfl
@[simp] theorem State.drawByte_tb1Pre (s : State) : (s.drawByte.2).tb1Pre = s.tb1Pre := rfl
@[simp] theorem State.drawByte_twPre (s : State) : (s.drawByte.2).twPre = s.twPre := rfl
@[simp] theorem State.drawByte_tb1Load (s : State) : (s.drawByte.2).tb1Load = s.tb1Load := rfl
@[simp] theorem State.drawByte_eep (s : State) : (s.drawByte.2).eep = s.eep := rfl
@[simp] theorem State.drawByte_eepMem (s : State) : (s.drawByte.2).eepMem = s.eepMem := rfl
@[simp] theorem State.drawByte_acc (s : State) : (s.drawByte.2).acc = s.acc := rfl
@[simp] theorem State.drawByte_accMem (s : State) : (s.drawByte.2).accMem = s.accMem := rfl
@[simp] theorem State.drawByte_lcd (s : State) : (s.drawByte.2).lcd = s.lcd := rfl
@[simp] theorem State.drawByte_fb (s : State) : (s.drawByte.2).fb = s.fb := rfl
@[simp] theorem State.drawByte_irRx (s : State) : (s.drawByte.2).irRx = s.irRx := rfl
@[simp] theorem State.drawByte_fault (s : State) : (s.drawByte.2).fault = s.fault := rfl
@[simp] theorem State.drawByte_out (s : State) : (s.drawByte.2).out = s.out := rfl
@[simp] theorem State.drawByte_stopRequested (s : State) : (s.drawByte.2).stopRequested = s.stopRequested := rfl
@[simp] theorem State.drawByte_runEnded (s : State) : (s.drawByte.2).runEnded = s.runEnded := rfl
@[simp] theorem State.drawByte_inputs (s : State) : (s.drawByte.2).inputs = s.inputs := rfl
@[simp] theorem State.drawByte_wallNow (s : State) : (s.drawByte.2).wallNow = s.wallNow := rfl
@[simp] theorem State.drawByte_wallQueue (s : State) : (s.drawByte.2).wallQueue = s.wallQueue := rfl
@[simp] theorem State.drawByte_draws (s : State) : (s.drawByte.2).draws = s.draws + 1 := rfl
@[simp] theorem State.drawByte_x (s : State) (j : Fin 8) : (s.drawByte.2).x j = s.x j := rfl
@[simp] theorem State.drawByte_raw (s : State) (c : Addr) : (s.drawByte.2).raw c = s.raw c := rfl

@[simp] theorem State.drawHalf_value (s : State) : s.drawHalf.1 = Config.freeHalf s.draws := rfl
/-! `drawHalf` -/

@[simp] theorem State.drawHalf_cfg (s : State) : (s.drawHalf.2).cfg = s.cfg := rfl
@[simp] theorem State.drawHalf_regs (s : State) : (s.drawHalf.2).regs = s.regs := rfl
@[simp] theorem State.drawHalf_pc (s : State) : (s.drawHalf.2).pc = s.pc := rfl
@[simp] theorem State.drawHalf_ccr (s : State) : (s.drawHalf.2).ccr = s.ccr := rfl
@[simp] theorem State.drawHalf_mem (s : State) : (s.drawHalf.2).mem = s.mem := rfl
@[simp] theorem State.drawHalf_sleep (s : State) : (s.drawHalf.2).sleep = s.sleep := rfl
@[simp] theorem State.drawHalf_savedPC (s : State) : (s.drawHalf.2).savedPC = s.savedPC := rfl
@[simp] theorem State.drawHalf_savedCCR (s : State) : (s.drawHalf.2).savedCCR = s.savedCCR := rfl
@[simp] theorem State.drawHalf_instrCount (s : State) : (s.drawHalf.2).instrCount = s.instrCount := rfl
@[simp] theorem State.drawHalf_cycleIndex (s : State) : (s.drawHalf.2).cycleIndex = s.cycleIndex := rfl
@[simp] theorem State.drawHalf_rtcInit (s : State) : (s.drawHalf.2).rtcInit = s.rtcInit := rfl
@[simp] theorem State.drawHalf_rtcQuarter (s : State) : (s.drawHalf.2).rtcQuarter = s.rtcQuarter := rfl
@[simp] theorem State.drawHalf_rtcPrev (s : State) : (s.drawHalf.2).rtcPrev = s.rtcPrev := rfl
@[simp] theorem State.drawHalf_tb1Pre (s : State) : (s.drawHalf.2).tb1Pre = s.tb1Pre := rfl
@[simp] theorem State.drawHalf_twPre (s : State) : (s.drawHalf.2).twPre = s.twPre := rfl
@[simp] theorem State.drawHalf_tb1Load (s : State) : (s.drawHalf.2).tb1Load = s.tb1Load := rfl
@[simp] theorem State.drawHalf_eep (s : State) : (s.drawHalf.2).eep = s.eep := rfl
@[simp] theorem State.drawHalf_eepMem (s : State) : (s.drawHalf.2).eepMem = s.eepMem := rfl
@[simp] theorem State.drawHalf_acc (s : State) : (s.drawHalf.2).acc = s.acc := rfl
@[simp] theorem State.drawHalf_accMem (s : State) : (s.drawHalf.2).accMem = s.accMem := rfl
@[simp] theorem State.drawHalf_lcd (s : State) : (s.drawHalf.2).lcd = s.lcd := rfl
@[simp] theorem State.drawHalf_fb (s : State) : (s.drawHalf.2).fb = s.fb := rfl
@[simp] theorem State.drawHalf_irRx (s : State) : (s.drawHalf.2).irRx = s.irRx := rfl
@[simp] theorem State.drawHalf_fault (s : State) : (s.drawHalf.2).fault = s.fault := rfl
@[simp] theorem State.drawHalf_out (s : State) : (s.drawHalf.2).out = s.out := rfl
@[simp] theorem State.drawHalf_stopRequested (s : State) : (s.drawHalf.2).stopRequested = s.stopRequested := rfl
@[simp] theorem State.drawHalf_runEnded (s : State) : (s.drawHalf.2).runEnded = s.runEnded := rfl
@[simp] theorem State.drawHalf_inputs (s : State) : (s.drawHalf.2).inputs = s.inputs := rfl
@[simp] theorem State.drawHalf_wallNow (s : State) : (s.drawHalf.2).wallNow = s.wallNow := rfl
@[simp] theorem State.drawHalf_wallQueue (s : State) : (s.drawHalf.2).wallQueue = s.wallQueue := rfl
@[simp] theorem State.drawHalf_draws (s : State) : (s.drawHalf.2).draws = s.draws + 1 := rfl
@[simp] theorem State.drawHalf_x (s : State) (j : Fin 8) : (s.drawHalf.2).x j = s.x j := rfl
@[simp] theorem State.drawHalf_raw (s : State) (c : Addr) : (s.drawHalf.2).raw c = s.raw c := rfl

@[simp] theorem State.drawLong_value (s : State) : s.drawLong.1 = Config.freeLong s.draws := rfl
/-! `drawLong` -/

@[simp] theorem State.drawLong_cfg (s : State) : (s.drawLong.2).cfg = s.cfg := rfl
@[simp] theorem State.drawLong_regs (s : State) : (s.drawLong.2).regs = s.regs := rfl
@[simp] theorem State.drawLong_pc (s : State) : (s.drawLong.2).pc = s.pc := rfl
@[simp] theorem State.drawLong_ccr (s : State) : (s.drawLong.2).ccr = s.ccr := rfl
@[simp] theorem State.drawLong_mem (s : State) : (s.drawLong.2).mem = s.mem := rfl
@[simp] theorem State.drawLong_sleep (s : State) : (s.drawLong.2).sleep = s.sleep := rfl
@[simp] theorem State.drawLong_savedPC (s : State) : (s.drawLong.2).savedPC = s.savedPC := rfl
@[simp] theorem State.drawLong_savedCCR (s : State) : (s.drawLong.2).savedCCR = s.savedCCR := rfl
@[simp] theorem State.drawLong_instrCount (s : State) : (s.drawLong.2).instrCount = s.instrCount := rfl
@[simp] theorem State.drawLong_cycleIndex (s : State) : (s.drawLong.2).cycleIndex = s.cycleIndex := rfl
@[simp] theorem State.drawLong_rtcInit (s : State) : (s.drawLong.2).rtcInit = s.rtcInit := rfl
@[simp] theorem State.drawLong_rtcQuarter (s : State) : (s.drawLong.2).rtcQuarter = s.rtcQuarter := rfl
@[simp] theorem State.drawLong_rtcPrev (s : State) : (s.drawLong.2).rtcPrev = s.rtcPrev := rfl
@[simp] theorem State.drawLong_tb1Pre (s : State) : (s.drawLong.2).tb1Pre = s.tb1Pre := rfl
@[simp] theorem State.drawLong_twPre (s : State) : (s.drawLong.2).twPre = s.twPre := rfl
@[simp] theorem State.drawLong_tb1Load (s : State) : (s.drawLong.2).tb1Load = s.tb1Load := rfl
@[simp] theorem State.drawLong_eep (s : State) : (s.drawLong.2).eep = s.eep := rfl
@[simp] theorem State.drawLong_eepMem (s : State) : (s.drawLong.2).eepMem = s.eepMem := rfl
@[simp] theorem State.drawLong_acc (s : State) : (s.drawLong.2).acc = s.acc := rfl
@[simp] theorem State.drawLong_accMem (s : State) : (s.drawLong.2).accMem = s.accMem := rfl
@[simp] theorem State.drawLong_lcd (s : State) : (s.drawLong.2).lcd = s.lcd := rfl
@[simp] theorem State.drawLong_fb (s : State) : (s.drawLong.2).fb = s.fb := rfl
@[simp] theorem State.drawLong_irRx (s : State) : (s.drawLong.2).irRx = s.irRx := rfl
@[simp] theorem State.drawLong_fault (s : State) : (s.drawLong.2).fault = s.fault := rfl
@[simp] theorem State.drawLong_out (s : State) : (s.drawLong.2).out = s.out := rfl
@[simp] theorem State.drawLong_stopRequested (s : State) : (s.drawLong.2).stopRequested = s.stopRequested := rfl
@[simp] theorem State.drawLong_runEnded (s : State) : (s.drawLong.2).runEnded = s.runEnded := rfl
@[simp] theorem State.drawLong_inputs (s : State) : (s.drawLong.2).inputs = s.inputs := rfl
@[simp] theorem State.drawLong_wallNow (s : State) : (s.drawLong.2).wallNow = s.wallNow := rfl
@[simp] theorem State.drawLong_wallQueue (s : State) : (s.drawLong.2).wallQueue = s.wallQueue := rfl
@[simp] theorem State.drawLong_draws (s : State) : (s.drawLong.2).draws = s.draws + 1 := rfl
@[simp] theorem State.drawLong_x (s : State) (j : Fin 8) : (s.drawLong.2).x j = s.x j := rfl
@[simp] theorem State.drawLong_raw (s : State) (c : Addr) : (s.drawLong.2).raw c = s.raw c := rfl

/-! `rawSet16` -/

@[simp] theorem State.rawSet16_cfg (s : State) (a : Addr) (v : Half) : (s.rawSet16 a v).cfg = s.cfg := rfl
@[simp] theorem State.rawSet16_regs (s : State) (a : Addr) (v : Half) : (s.rawSet16 a v).regs = s.regs := rfl
@[simp] theorem State.rawSet16_pc (s : State) (a : Addr) (v : Half) : (s.rawSet16 a v).pc = s.pc := rfl
@[simp] theorem State.rawSet16_ccr (s : State) (a : Addr) (v : Half) : (s.rawSet16 a v).ccr = s.ccr := rfl
@[simp] theorem State.rawSet16_sleep (s : State) (a : Addr) (v : Half) : (s.rawSet16 a v).sleep = s.sleep := rfl
@[simp] theorem State.rawSet16_savedPC (s : State) (a : Addr) (v : Half) : (s.rawSet16 a v).savedPC = s.savedPC := rfl
@[simp] theorem State.rawSet16_savedCCR (s : State) (a : Addr) (v : Half) : (s.rawSet16 a v).savedCCR = s.savedCCR := rfl
@[simp] theorem State.rawSet16_instrCount (s : State) (a : Addr) (v : Half) : (s.rawSet16 a v).instrCount = s.instrCount := rfl
@[simp] theorem State.rawSet16_cycleIndex (s : State) (a : Addr) (v : Half) : (s.rawSet16 a v).cycleIndex = s.cycleIndex := rfl
@[simp] theorem State.rawSet16_rtcInit (s : State) (a : Addr) (v : Half) : (s.rawSet16 a v).rtcInit = s.rtcInit := rfl
@[simp] theorem State.rawSet16_rtcQuarter (s : State) (a : Addr) (v : Half) : (s.rawSet16 a v).rtcQuarter = s.rtcQuarter := rfl
@[simp] theorem State.rawSet16_rtcPrev (s : State) (a : Addr) (v : Half) : (s.rawSet16 a v).rtcPrev = s.rtcPrev := rfl
@[simp] theorem State.rawSet16_tb1Pre (s : State) (a : Addr) (v : Half) : (s.rawSet16 a v).tb1Pre = s.tb1Pre := rfl
@[simp] theorem State.rawSet16_twPre (s : State) (a : Addr) (v : Half) : (s.rawSet16 a v).twPre = s.twPre := rfl
@[simp] theorem State.rawSet16_tb1Load (s : State) (a : Addr) (v : Half) : (s.rawSet16 a v).tb1Load = s.tb1Load := rfl
@[simp] theorem State.rawSet16_eep (s : State) (a : Addr) (v : Half) : (s.rawSet16 a v).eep = s.eep := rfl
@[simp] theorem State.rawSet16_eepMem (s : State) (a : Addr) (v : Half) : (s.rawSet16 a v).eepMem = s.eepMem := rfl
@[simp] theorem State.rawSet16_acc (s : State) (a : Addr) (v : Half) : (s.rawSet16 a v).acc = s.acc := rfl
@[simp] theorem State.rawSet16_accMem (s : State) (a : Addr) (v : Half) : (s.rawSet16 a v).accMem = s.accMem := rfl
@[simp] theorem State.rawSet16_lcd (s : State) (a : Addr) (v : Half) : (s.rawSet16 a v).lcd = s.lcd := rfl
@[simp] theorem State.rawSet16_fb (s : State) (a : Addr) (v : Half) : (s.rawSet16 a v).fb = s.fb := rfl
@[simp] theorem State.rawSet16_irRx (s : State) (a : Addr) (v : Half) : (s.rawSet16 a v).irRx = s.irRx := rfl
@[simp] theorem State.rawSet16_fault (s : State) (a : Addr) (v : Half) : (s.rawSet16 a v).fault = s.fault := rfl
@[simp] theorem State.rawSet16_out (s : State) (a : Addr) (v : Half) : (s.rawSet16 a v).out = s.out := rfl
@[simp] theorem State.rawSet16_stopRequested (s : State) (a : Addr) (v : Half) : (s.rawSet16 a v).stopRequested = s.stopRequested := rfl
@[simp] theorem State.rawSet16_runEnded (s : State) (a : Addr) (v : Half) : (s.rawSet16 a v).runEnded = s.runEnded := rfl
@[simp] theorem State.rawSet16_inputs (s : State) (a : Addr) (v : Half) : (s.rawSet16 a v).inputs = s.inputs := rfl
@[simp] theorem State.rawSet16_wallNow (s : State) (a : Addr) (v : Half) : (s.rawSet16 a v).wallNow = s.wallNow := rfl
@[simp] theorem State.rawSet16_wallQueue (s : State) (a : Addr) (v : Half) : (s.rawSet16 a v).wallQueue = s.wallQueue := rfl
@[simp] theorem State.rawSet16_draws (s : State) (a : Addr) (v : Half) : (s.rawSet16 a v).draws = s.draws := rfl
@[simp] theorem State.rawSet16_x (s : State) (a : Addr) (v : Half) (j : Fin 8) : (s.rawSet16 a v).x j = s.x j := rfl

/-! `readHook` -/

@[simp] theorem State.readHook_cfg (s : State) (a : Addr) : (s.readHook a).cfg = s.cfg := rfl
@[simp] theorem State.readHook_regs (s : State) (a : Addr) : (s.readHook a).regs = s.regs := rfl
@[simp] theorem State.readHook_pc (s : State) (a : Addr) : (s.readHook a).pc = s.pc := rfl
@[simp] theorem State.readHook_ccr (s : State) (a : Addr) : (s.readHook a).ccr = s.ccr := rfl
@[simp] theorem State.readHook_mem (s : State) (a : Addr) : (s.readHook a).mem = s.mem.readHook s.cfg.io a := rfl
@[simp] theorem State.readHook_sleep (s : State) (a : Addr) : (s.readHook a).sleep = s.sleep := rfl
@[simp] theorem State.readHook_savedPC (s : State) (a : Addr) : (s.readHook a).savedPC = s.savedPC := rfl
@[simp] theorem State.readHook_savedCCR (s : State) (a : Addr) : (s.readHook a).savedCCR = s.savedCCR := rfl
@[simp] theorem State.readHook_instrCount (s : State) (a : Addr) : (s.readHook a).instrCount = s.instrCount := rfl
@[simp] theorem State.readHook_cycleIndex (s : State) (a : Addr) : (s.readHook a).cycleIndex = s.cycleIndex := rfl
@[simp] theorem State.readHook_rtcInit (s : State) (a : Addr) : (s.readHook a).rtcInit = s.rtcInit := rfl
@[simp] theorem State.readHook_rtcQuarter (s : State) (a : Addr) : (s.readHook a).rtcQuarter = s.rtcQuarter := rfl
@[simp] theorem State.readHook_rtcPrev (s : State) (a : Addr) : (s.readHook a).rtcPrev = s.rtcPrev := rfl
@[simp] theorem State.readHook_tb1Pre (s : State) (a : Addr) : (s.readHook a).tb1Pre = s.tb1Pre := rfl
@[simp] theorem State.readHook_twPre (s : State) (a : Addr) : (s.readHook a).twPre = s.twPre := rfl
@[simp] theorem State.readHook_tb1Load (s : State) (a : Addr) : (s.readHook a).tb1Load = s.tb1Load := rfl
@[simp] theorem State.readHook_eep (s : State) (a : Addr) : (s.readHook a).eep = s.eep := rfl
@[simp] theorem State.readHook_eepMem (s : State) (a : Addr) : (s.readHook a).eepMem = s.eepMem := rfl
@[simp] theorem State.readHook_acc (s : State) (a : Addr) : (s.readHook a).acc = s.acc := rfl
@[simp] theorem State.readHook_accMem (s : State) (a : Addr) : (s.readHook a).accMem = s.accMem := rfl
@[simp] theorem State.readHook_lcd (s : State) (a : Addr) : (s.readHook a).lcd = s.lcd := rfl
@[simp] theorem State.readHook_fb (s : State) (a : Addr) : (s.readHook a).fb = s.fb := rfl
@[simp] theorem State.readHook_irRx (s : State) (a : Addr) : (s.readHook a).irRx = s.irRx := rfl
@[simp] theorem State.readHook_fault (s : State) (a : Addr) : (s.readHook a).fault = s.fault := rfl
@[simp] theorem State.readHook_out (s : State) (a : Addr) : (s.readHook a).out = s.out := rfl
@[simp] theorem State.readHook_stopRequested (s : State) (a : Addr) : (s.readHook a).stopRequested = s.stopRequested := rfl
@[simp] theorem State.readHook_runEnded (s : State) (a : Addr) : (s.readHook a).runEnded = s.runEnded := rfl
@[simp] theorem State.readHook_inputs (s : State) (a : Addr) : (s.readHook a).inputs = s.inputs := rfl
@[simp] theorem State.readHook_wallNow (s : State) (a : Addr) : (s.readHook a).wallNow = s.wallNow := rfl
@[simp] theorem State.readHook_wallQueue (s : State) (a : Addr) : (s.readHook a).wallQueue = s.wallQueue := rfl
@[simp] theorem State.readHook_draws (s : State) (a : Addr) : (s.readHook a).draws = s.draws := rfl
@[simp] theorem State.readHook_x (s : State) (a : Addr) (j : Fin 8) : (s.readHook a).x j = s.x j := rfl

/-! `load8` -/

@[simp] theorem State.load8_cfg (s : State) (a : Addr) : ((s.load8 a).2).cfg = s.cfg := rfl
@[simp] theorem State.load8_regs (s : State) (a : Addr) : ((s.load8 a).2).regs = s.regs := rfl
@[simp] theorem State.load8_pc (s : State) (a : Addr) : ((s.load8 a).2).pc = s.pc := rfl
@[simp] theorem State.load8_ccr (s : State) (a : Addr) : ((s.load8 a).2).ccr = s.ccr := rfl
@[simp] theorem State.load8_sleep (s : State) (a : Addr) : ((s.load8 a).2).sleep = s.sleep := rfl
@[simp] theorem State.load8_savedPC (s : State) (a : Addr) : ((s.load8 a).2).savedPC = s.savedPC := rfl
@[simp] theorem State.load8_savedCCR (s : State) (a : Addr) : ((s.load8 a).2).savedCCR = s.savedCCR := rfl
@[simp] theorem State.load8_instrCount (s : State) (a : Addr) : ((s.load8 a).2).instrCount = s.instrCount := rfl
@[simp] theorem State.load8_cycleIndex (s : State) (a : Addr) : ((s.load8 a).2).cycleIndex = s.cycleIndex := rfl
@[simp] theorem State.load8_rtcInit (s : State) (a : Addr) : ((s.load8 a).2).rtcInit = s.rtcInit := rfl
@[simp] theorem State.load8_rtcQuarter (s : State) (a : Addr) : ((s.load8 a).2).rtcQuarter = s.rtcQuarter := rfl
@[simp] theorem State.load8_rtcPrev (s : State) (a : Addr) : ((s.load8 a).2).rtcPrev = s.rtcPrev := rfl
@[simp] theorem State.load8_tb1Pre (s : State) (a : Addr) : ((s.load8 a).2).tb1Pre = s.tb1Pre := rfl
@[simp] theorem State.load8_twPre (s : State) (a : Addr) : ((s.load8 a).2).twPre = s.twPre := rfl
@[simp] theorem State.load8_tb1Load (s : State) (a : Addr) : ((s.load8 a).2).tb1Load = s.tb1Load := rfl
@[simp] theorem State.load8_eep (s : State) (a : Addr) : ((s.load8 a).2).eep = s.eep := rfl
@[simp] theorem State.load8_eepMem (s : State) (a : Addr) : ((s.load8 a).2).eepMem = s.eepMem := rfl
@[simp] theorem State.load8_acc (s : State) (a : Addr) : ((s.load8 a).2).acc = s.acc := rfl
@[simp] theorem State.load8_accMem (s : State) (a : Addr) : ((s.load8 a).2).accMem = s.accMem := rfl
@[simp] theorem State.load8_lcd (s : State) (a : Addr) : ((s.load8 a).2).lcd = s.lcd := rfl
@[simp] theorem State.load8_fb (s : State) (a : Addr) : ((s.load8 a).2).fb = s.fb := rfl
@[simp] theorem State.load8_irRx (s : State) (a : Addr) : ((s.load8 a).2).irRx = s.irRx := rfl
@[simp] theorem State.load8_fault (s : State) (a : Addr) : ((s.load8 a).2).fault = s.fault := rfl
@[simp] theorem State.load8_out (s : State) (a : Addr) : ((s.load8 a).2).out = s.out := rfl
@[simp] theorem State.load8_stopRequested (s : State) (a : Addr) : ((s.load8 a).2).stopRequested = s.stopRequested := rfl
@[simp] theorem State.load8_runEnded (s : State) (a : Addr) : ((s.load8 a).2).runEnded = s.runEnded := rfl
@[simp] theorem State.load8_inputs (s : State) (a : Addr) : ((s.load8 a).2).inputs = s.inputs := rfl
@[simp] theorem State.load8_wallNow (s : State) (a : Addr) : ((s.load8 a).2).wallNow = s.wallNow := rfl
@[simp] theorem State.load8_wallQueue (s : State) (a : Addr) : ((s.load8 a).2).wallQueue = s.wallQueue := rfl
@[simp] theorem State.load8_draws (s : State) (a : Addr) : ((s.load8 a).2).draws = s.draws := rfl
@[simp] theorem State.load8_x (s : State) (a : Addr) (j : Fin 8) : ((s.load8 a).2).x j = s.x j := rfl

/-! `load16` -/

@[simp] theorem State.load16_cfg (s : State) (a : Addr) : ((s.load16 a).2).cfg = s.cfg := by simp [State.load16]
@[simp] theorem State.load16_regs (s : State) (a : Addr) : ((s.load16 a).2).regs = s.regs := by simp [State.load16]
@[simp] theorem State.load16_pc (s : State) (a : Addr) : ((s.load16 a).2).pc = s.pc := by simp [State.load16]
@[simp] theorem State.load16_ccr (s : State) (a : Addr) : ((s.load16 a).2).ccr = s.ccr := by simp [State.load16]
@[simp] theorem State.load16_sleep (s : State) (a : Addr) : ((s.load16 a).2).sleep = s.sleep := by simp [State.load16]
@[simp] theorem State.load16_savedPC (s : State) (a : Addr) : ((s.load16 a).2).savedPC = s.savedPC := by simp [State.load16]
@[simp] theorem State.load16_savedCCR (s : State) (a : Addr) : ((s.load16 a).2).savedCCR = s.savedCCR := by simp [State.load16]
@[simp] theorem State.load16_instrCount (s : State) (a : Addr) : ((s.load16 a).2).instrCount = s.instrCount := by simp [State.load16]
@[simp] theorem State.load16_cycleIndex (s : State) (a : Addr) : ((s.load16 a).2).cycleIndex = s.cycleIndex := by simp [State.load16]
@[simp] theorem State.load16_rtcInit (s : State) (a : Addr) : ((s.load16 a).2).rtcInit = s.rtcInit := by simp [State.load16]
@[simp] theorem State.load16_rtcQuarter (s : State) (a : Addr) : ((s.load16 a).2).rtcQuarter = s.rtcQuarter := by simp [State.load16]
@[simp] theorem State.load16_rtcPrev (s : State) (a : Addr) : ((s.load16 a).2).rtcPrev = s.rtcPrev := by simp [State.load16]
@[simp] theorem State.load16_tb1Pre (s : State) (a : Addr) : ((s.load16 a).2).tb1Pre = s.tb1Pre := by simp [State.load16]
@[simp] theorem State.load16_twPre (s : State) (a : Addr) : ((s.load16 a).2).twPre = s.twPre := by simp [State.load16]
@[simp] theorem State.load16_tb1Load (s : State) (a : Addr) : ((s.load16 a).2).tb1Load = s.tb1Load := by simp [State.load16]
@[simp] theorem State.load16_eep (s : State) (a : Addr) : ((s.load16 a).2).eep = s.eep := by simp [State.load16]
@[simp] theorem State.load16_eepMem (s : State) (a : Addr) : ((s.load16 a).2).eepMem = s.eepMem := by simp [State.load16]
@[simp] theorem State.load16_acc (s : State) (a : Addr) : ((s.load16 a).2).acc = s.acc := by simp [State.load16]
@[simp] theorem State.load16_accMem (s : State) (a : Addr) : ((s.load16 a).2).accMem = s.accMem := by simp [State.load16]
@[simp] theorem State.load16_lcd (s : State) (a : Addr) : ((s.load16 a).2).lcd = s.lcd := by simp [State.load16]
@[simp] theorem State.load16_fb (s : State) (a : Addr) : ((s.load16 a).2).fb = s.fb := by simp [State.load16]
@[simp] theorem State.load16_irRx (s : State) (a : Addr) : ((s.load16 a).2).irRx = s.irRx := by simp [State.load16]
@[simp] theorem State.load16_fault (s : State) (a : Addr) : ((s.load16 a).2).fault = s.fault := by simp [State.load16]
@[simp] theorem State.load16_out (s : State) (a : Addr) : ((s.load16 a).2).out = s.out := by simp [State.load16]
@[simp] theorem State.load16_stopRequested (s : State) (a : Addr) : ((s.load16 a).2).stopRequested = s.stopRequested := by simp [State.load16]
@[simp] theorem State.load16_runEnded (s : State) (a : Addr) : ((s.load16 a).2).runEnded = s.runEnded := by simp [State.load16]
@[simp] theorem State.load16_inputs (s : State) (a : Addr) : ((s.load16 a).2).inputs = s.inputs := by simp [State.load16]
@[simp] theorem State.load16_wallNow (s : State) (a : Addr) : ((s.load16 a).2).wallNow = s.wallNow := by simp [State.load16]
@[simp] theorem State.load16_wallQueue (s : State) (a : Addr) : ((s.load16 a).2).wallQueue = s.wallQueue := by simp [State.load16]
@[simp] theorem State.load16_draws (s : State) (a : Addr) : ((s.load16 a).2).draws = s.draws := by simp [State.load16]
@[simp] theorem State.load16_x (s : State) (a : Addr) (j : Fin 8) : ((s.load16 a).2).x j = s.x j := by simp [State.x]

/-! `load32` -/

@[simp] theorem State.load32_cfg (s : State) (a : Addr) : ((s.load32 a).2).cfg = s.cfg := by simp [State.load32]
@[simp] theorem State.load32_regs (s : State) (a : Addr) : ((s.load32 a).2).regs = s.regs := by simp [State.load32]
@[simp] theorem State.load32_pc (s : State) (a : Addr) : ((s.load32 a).2).pc = s.pc := by simp [State.load32]
@[simp] theorem State.load32_ccr (s : State) (a : Addr) : ((s.load32 a).2).ccr = s.ccr := by simp [State.load32]
@[simp] theorem State.load32_sleep (s : State) (a : Addr) : ((s.load32 a).2).sleep = s.sleep := by simp [State.load32]
@[simp] theorem State.load32_savedPC (s : State) (a : Addr) : ((s.load32 a).2).savedPC = s.savedPC := by simp [State.load32]
@[simp] theorem State.load32_savedCCR (s : State) (a : Addr) : ((s.load32 a).2).savedCCR = s.savedCCR := by simp [State.load32]
@[simp] theorem State.load32_instrCount (s : State) (a : Addr) : ((s.load32 a).2).instrCount = s.instrCount := by simp [State.load32]
@[simp] theorem State.load32_cycleIndex (s : State) (a : Addr) : ((s.load32 a).2).cycleIndex = s.cycleIndex := by simp [State.load32]
@[simp] theorem State.load32_rtcInit (s : State) (a : Addr) : ((s.load32 a).2).rtcInit = s.rtcInit := by simp [State.load32]
@[simp] theorem State.load32_rtcQuarter (s : State) (a : Addr) : ((s.load32 a).2).rtcQuarter = s.rtcQuarter := by simp [State.load32]
@[simp] theorem State.load32_rtcPrev (s : State) (a : Addr) : ((s.load32 a).2).rtcPrev = s.rtcPrev := by simp [State.load32]
@[simp] theorem State.load32_tb1Pre (s : State) (a : Addr) : ((s.load32 a).2).tb1Pre = s.tb1Pre := by simp [State.load32]
@[simp] theorem State.load32_twPre (s : State) (a : Addr) : ((s.load32 a).2).twPre = s.twPre := by simp [State.load32]
@[simp] theorem State.load32_tb1Load (s : State) (a : Addr) : ((s.load32 a).2).tb1Load = s.tb1Load := by simp [State.load32]
@[simp] theorem State.load32_eep (s : State) (a : Addr) : ((s.load32 a).2).eep = s.eep := by simp [State.load32]
@[simp] theorem State.load32_eepMem (s : State) (a : Addr) : ((s.load32 a).2).eepMem = s.eepMem := by simp [State.load32]
@[simp] theorem State.load32_acc (s : State) (a : Addr) : ((s.load32 a).2).acc = s.acc := by simp [State.load32]
@[simp] theorem State.load32_accMem (s : State) (a : Addr) : ((s.load32 a).2).accMem = s.accMem := by simp [State.load32]
@[simp] theorem State.load32_lcd (s : State) (a : Addr) : ((s.load32 a).2).lcd = s.lcd := by simp [State.load32]
@[simp] theorem State.load32_fb (s : State) (a : Addr) : ((s.load32 a).2).fb = s.fb := by simp [State.load32]
@[simp] theorem State.load32_irRx (s : State) (a : Addr) : ((s.load32 a).2).irRx = s.irRx := by simp [State.load32]
@[simp] theorem State.load32_fault (s : State) (a : Addr) : ((s.load32 a).2).fault = s.fault := by simp [State.load32]
@[simp] theorem State.load32_out (s : State) (a : Addr) : ((s.load32 a).2).out = s.out := by simp [State.load32]
@[simp] theorem State.load32_stopRequested (s : State) (a : Addr) : ((s.load32 a).2).stopRequested = s.stopRequested := by simp [State.load32]
@[simp] theorem State.load32_runEnded (s : State) (a : Addr) : ((s.load32 a).2).runEnded = s.runEnded := by simp [State.load32]
@[simp] theorem State.load32_inputs (s : State) (a : Addr) : ((s.load32 a).2).inputs = s.inputs := by simp [State.load32]
@[simp] theorem State.load32_wallNow (s : State) (a : Addr) : ((s.load32 a).2).wallNow = s.wallNow := by simp [State.load32]
@[simp] theorem State.load32_wallQueue (s : State) (a : Addr) : ((s.load32 a).2).wallQueue = s.wallQueue := by simp [State.load32]
@[simp] theorem State.load32_draws (s : State) (a : Addr) : ((s.load32 a).2).draws = s.draws := by simp [State.load32]
@[simp] theorem State.load32_x (s : State) (a : Addr) (j : Fin 8) : ((s.load32 a).2).x j = s.x j := by simp [State.x]

/-! `writeHook` -/

@[simp] theorem State.writeHook_cfg (s : State) (a : Addr) (v : Byte) : (s.writeHook a v).cfg = s.cfg := rfl
@[simp] theorem State.writeHook_regs (s : State) (a : Addr) (v : Byte) : (s.writeHook a v).regs = s.regs := rfl
@[simp] theorem State.writeHook_pc (s : State) (a : Addr) (v : Byte) : (s.writeHook a v).pc = s.pc := rfl
@[simp] theorem State.writeHook_ccr (s : State) (a : Addr) (v : Byte) : (s.writeHook a v).ccr = s.ccr := rfl
@[simp] theorem State.writeHook_sleep (s : State) (a : Addr) (v : Byte) : (s.writeHook a v).sleep = s.sleep := rfl
@[simp] theorem State.writeHook_savedPC (s : State) (a : Addr) (v : Byte) : (s.writeHook a v).savedPC = s.savedPC := rfl
@[simp] theorem State.writeHook_savedCCR (s : State) (a : Addr) (v : Byte) : (s.writeHook a v).savedCCR = s.savedCCR := rfl
@[simp] theorem State.writeHook_instrCount (s : State) (a : Addr) (v : Byte) : (s.writeHook a v).instrCount = s.instrCount := rfl
@[simp] theorem State.writeHook_cycleIndex (s : State) (a : Addr) (v : Byte) : (s.writeHook a v).cycleIndex = s.cycleIndex := rfl
@[simp] theorem State.writeHook_rtcInit (s : State) (a : Addr) (v : Byte) : (s.writeHook a v).rtcInit = s.rtcInit := rfl
@[simp] theorem State.writeHook_rtcQuarter (s : State) (a : Addr) (v : Byte) : (s.writeHook a v).rtcQuarter = s.rtcQuarter := rfl
@[simp] theorem State.writeHook_rtcPrev (s : State) (a : Addr) (v : Byte) : (s.writeHook a v).rtcPrev = s.rtcPrev := rfl
@[simp] theorem State.writeHook_tb1Pre (s : State) (a : Addr) (v : Byte) : (s.writeHook a v).tb1Pre = s.tb1Pre := rfl
@[simp] theorem State.writeHook_twPre (s : State) (a : Addr) (v : Byte) : (s.writeHook a v).twPre = s.twPre := rfl
@[simp] theorem State.writeHook_eepMem (s : State) (a : Addr) (v : Byte) : (s.writeHook a v).eepMem = s.eepMem := rfl
@[simp] theorem State.writeHook_accMem (s : State) (a : Addr) (v : Byte) : (s.writeHook a v).accMem = s.accMem := rfl
@[simp] theorem State.writeHook_fb (s : State) (a : Addr) (v : Byte) : (s.writeHook a v).fb = s.fb := rfl
@[simp] theorem State.writeHook_irRx (s : State) (a : Addr) (v : Byte) : (s.writeHook a v).irRx = s.irRx := rfl
@[simp] theorem State.writeHook_fault (s : State) (a : Addr) (v : Byte) : (s.writeHook a v).fault = s.fault := rfl
@[simp] theorem State.writeHook_out (s : State) (a : Addr) (v : Byte) : (s.writeHook a v).out = s.out := rfl
@[simp] theorem State.writeHook_stopRequested (s : State) (a : Addr) (v : Byte) : (s.writeHook a v).stopRequested = s.stopRequested := rfl
@[simp] theorem State.writeHook_runEnded (s : State) (a : Addr) (v : Byte) : (s.writeHook a v).runEnded = s.runEnded := rfl
@[simp] theorem State.writeHook_inputs (s : State) (a : Addr) (v : Byte) : (s.writeHook a v).inputs = s.inputs := rfl
@[simp] theorem State.writeHook_wallNow (s : State) (a : Addr) (v : Byte) : (s.writeHook a v).wallNow = s.wallNow := rfl
@[simp] theorem State.writeHook_wallQueue (s : State) (a : Addr) (v : Byte) : (s.writeHook a v).wallQueue = s.wallQueue := rfl
@[simp] theorem State.writeHook_draws (s : State) (a : Addr) (v : Byte) : (s.writeHook a v).draws = s.draws := rfl
@[simp] theorem State.writeHook_x (s : State) (a : Addr) (v : Byte) (j : Fin 8) : (s.writeHook a v).x j = s.x j := rfl

/-! `store8` -/

@[simp] theorem State.store8_cfg (s : State) (a : Addr) (v : Byte) : (s.store8 a v).cfg = s.cfg := rfl
@[simp] theorem State.store8_regs (s : State) (a : Addr) (v : Byte) : (s.store8 a v).regs = s.regs := rfl
@[simp] theorem State.store8_pc (s : State) (a : Addr) (v : Byte) : (s.store8 a v).pc = s.pc := rfl
@[simp] theorem State.store8_ccr (s : State) (a : Addr) (v : Byte) : (s.store8 a v).ccr = s.ccr := rfl
@[simp] theorem State.store8_sleep (s : State) (a : Addr) (v : Byte) : (s.store8 a v).sleep = s.sleep := rfl
@[simp] theorem State.store8_savedPC (s : State) (a : Addr) (v : Byte) : (s.store8 a v).savedPC = s.savedPC := rfl
@[simp] theorem State.store8_savedCCR (s : State) (a : Addr) (v : Byte) : (s.store8 a v).savedCCR = s.savedCCR := rfl
@[simp] theorem State.store8_instrCount (s : State) (a : Addr) (v : Byte) : (s.store8 a v).instrCount = s.instrCount := rfl
@[simp] theorem State.store8_cycleIndex (s : State) (a : Addr) (v : Byte) : (s.store8 a v).cycleIndex = s.cycleIndex := rfl
@[simp] theorem State.store8_rtcInit (s : State) (a : Addr) (v : Byte) : (s.store8 a v).rtcInit = s.rtcInit := rfl
@[simp] theorem State.store8_rtcQuarter (s : State) (a : Addr) (v : Byte) : (s.store8 a v).rtcQuarter = s.rtcQuarter := rfl
@[simp] theorem State.store8_rtcPrev (s : State) (a : Addr) (v : Byte) : (s.store8 a v).rtcPrev = s.rtcPrev := rfl
@[simp] theorem State.store8_tb1Pre (s : State) (a : Addr) (v : Byte) : (s.store8 a v).tb1Pre = s.tb1Pre := rfl
@[simp] theorem State.store8_twPre (s : State) (a : Addr) (v : Byte) : (s.store8 a v).twPre = s.twPre := rfl
@[simp] theorem State.store8_eepMem (s : State) (a : Addr) (v : Byte) : (s.store8 a v).eepMem = s.eepMem := rfl
@[simp] theorem State.store8_accMem (s : State) (a : Addr) (v : Byte) : (s.store8 a v).accMem = s.accMem := rfl
@[simp] theorem State.store8_fb (s : State) (a : Addr) (v : Byte) : (s.store8 a v).fb = s.fb := rfl
@[simp] theorem State.store8_irRx (s : State) (a : Addr) (v : Byte) : (s.store8 a v).irRx = s.irRx := rfl
@[simp] theorem State.store8_fault (s : State) (a : Addr) (v : Byte) : (s.store8 a v).fault = s.fault := rfl
@[simp] theorem State.store8_out (s : State) (a : Addr) (v : Byte) : (s.store8 a v).out = s.out := rfl
@[simp] theorem State.store8_stopRequested (s : State) (a : Addr) (v : Byte) : (s.store8 a v).stopRequested = s.stopRequested := rfl
@[simp] theorem State.store8_runEnded (s : State) (a : Addr) (v : Byte) : (s.store8 a v).runEnded = s.runEnded := rfl
@[simp] theorem State.store8_inputs (s : State) (a : Addr) (v : Byte) : (s.store8 a v).inputs = s.inputs := rfl
@[simp] theorem State.store8_wallNow (s : State) (a : Addr) (v : Byte) : (s.store8 a v).wallNow = s.wallNow := rfl
@[simp] theorem State.store8_wallQueue (s : State) (a : Addr) (v : Byte) : (s.store8 a v).wallQueue = s.wallQueue := rfl
@[simp] theorem State.store8_draws (s : State) (a : Addr) (v : Byte) : (s.store8 a v).draws = s.draws := rfl
@[simp] theorem State.store8_x (s : State) (a : Addr) (v : Byte) (j : Fin 8) : (s.store8 a v).x j = s.x j := rfl

/-! `store16` -/

@[simp] theorem State.store16_cfg (s : State) (a : Addr) (v : Half) : (s.store16 a v).cfg = s.cfg := by simp [State.store16]
@[simp] theorem State.store16_regs (s : State) (a : Addr) (v : Half) : (s.store16 a v).regs = s.regs := by simp [State.store16]
@[simp] theorem State.store16_pc (s : State) (a : Addr) (v : Half) : (s.store16 a v).pc = s.pc := by simp [State.store16]
@[simp] theorem State.store16_ccr (s : State) (a : Addr) (v : Half) : (s.store16 a v).ccr = s.ccr := by simp [State.store16]
@[simp] theorem State.store16_sleep (s : State) (a : Addr) (v : Half) : (s.store16 a v).sleep = s.sleep := by simp [State.store16]
@[simp] theorem State.store16_savedPC (s : State) (a : Addr) (v : Half) : (s.store16 a v).savedPC = s.savedPC := by simp [State.store16]
@[simp] theorem State.store16_savedCCR (s : State) (a : Addr) (v : Half) : (s.store16 a v).savedCCR = s.savedCCR := by simp [State.store16]
@[simp] theorem State.store16_instrCount (s : State) (a : Addr) (v : Half) : (s.store16 a v).instrCount = s.instrCount := by simp [State.store16]
@[simp] theorem State.store16_cycleIndex (s : State) (a : Addr) (v : Half) : (s.store16 a v).cycleIndex = s.cycleIndex := by simp [State.store16]
@[simp] theorem State.store16_rtcInit (s : State) (a : Addr) (v : Half) : (s.store16 a v).rtcInit = s.rtcInit := by simp [State.store16]
@[simp] theorem State.store16_rtcQuarter (s : State) (a : Addr) (v : Half) : (s.store16 a v).rtcQuarter = s.rtcQuarter := by simp [State.store16]
@[simp] theorem State.store16_rtcPrev (s : State) (a : Addr) (v : Half) : (s.store16 a v).rtcPrev = s.rtcPrev := by simp [State.store16]
@[simp] theorem State.store16_tb1Pre (s : State) (a : Addr) (v : Half) : (s.store16 a v).tb1Pre = s.tb1Pre := by simp [State.store16]
@[simp] theorem State.store16_twPre (s : State) (a : Addr) (v : Half) : (s.store16 a v).twPre = s.twPre := by simp [State.store16]
@[simp] theorem State.store16_eepMem (s : State) (a : Addr) (v : Half) : (s.store16 a v).eepMem = s.eepMem := by simp [State.store16]
@[simp] theorem State.store16_accMem (s : State) (a : Addr) (v : Half) : (s.store16 a v).accMem = s.accMem := by simp [State.store16]
@[simp] theorem State.store16_fb (s : State) (a : Addr) (v : Half) : (s.store16 a v).fb = s.fb := by simp [State.store16]
@[simp] theorem State.store16_irRx (s : State) (a : Addr) (v : Half) : (s.store16 a v).irRx = s.irRx := by simp [State.store16]
@[simp] theorem State.store16_fault (s : State) (a : Addr) (v : Half) : (s.store16 a v).fault = s.fault := by simp [State.store16]
@[simp] theorem State.store16_out (s : State) (a : Addr) (v : Half) : (s.store16 a v).out = s.out := by simp [State.store16]
@[simp] theorem State.store16_stopRequested (s : State) (a : Addr) (v : Half) : (s.store16 a v).stopRequested = s.stopRequested := by simp [State.store16]
@[simp] theorem State.store16_runEnded (s : State) (a : Addr) (v : Half) : (s.store16 a v).runEnded = s.runEnded := by simp [State.store16]
@[simp] theorem State.store16_inputs (s : State) (a : Addr) (v : Half) : (s.store16 a v).inputs = s.inputs := by simp [State.store16]
@[simp] theorem State.store16_wallNow (s : State) (a : Addr) (v : Half) : (s.store16 a v).wallNow = s.wallNow := by simp [State.store16]
@[simp] theorem State.store16_wallQueue (s : State) (a : Addr) (v : Half) : (s.store16 a v).wallQueue = s.wallQueue := by simp [State.store16]
@[simp] theorem State.store16_draws (s : State) (a : Addr) (v : Half) : (s.store16 a v).draws = s.draws := by simp [State.store16]
@[simp] theorem State.store16_x (s : State) (a : Addr) (v : Half) (j : Fin 8) : (s.store16 a v).x j = s.x j := by simp [State.x]

/-! `store32` -/

@[simp] theorem State.store32_cfg (s : State) (a : Addr) (v : Long) : (s.store32 a v).cfg = s.cfg := by simp [State.store32]
@[simp] theorem State.store32_regs (s : State) (a : Addr) (v : Long) : (s.store32 a v).regs = s.regs := by simp [State.store32]
@[simp] theorem State.store32_pc (s : State) (a : Addr) (v : Long) : (s.store32 a v).pc = s.pc := by simp [State.store32]
@[simp] theorem State.store32_ccr (s : State) (a : Addr) (v : Long) : (s.store32 a v).ccr = s.ccr := by simp [State.store32]
@[simp] theorem State.store32_sleep (s : State) (a : Addr) (v : Long) : (s.store32 a v).sleep = s.sleep := by simp [State.store32]
@[simp] theorem State.store32_savedPC (s : State) (a : Addr) (v : Long) : (s.store32 a v).savedPC = s.savedPC := by simp [State.store32]
@[simp] theorem State.store32_savedCCR (s : State) (a : Addr) (v : Long) : (s.store32 a v).savedCCR = s.savedCCR := by simp [State.store32]
@[simp] theorem State.store32_instrCount (s : State) (a : Addr) (v : Long) : (s.store32 a v).instrCount = s.instrCount := by simp [State.store32]
@[simp] theorem State.store32_cycleIndex (s : State) (a : Addr) (v : Long) : (s.store32 a v).cycleIndex = s.cycleIndex := by simp [State.store32]
@[simp] theorem State.store32_rtcInit (s : State) (a : Addr) (v : Long) : (s.store32 a v).rtcInit = s.rtcInit := by simp [State.store32]
@[simp] theorem State.store32_rtcQuarter (s : State) (a : Addr) (v : Long) : (s.store32 a v).rtcQuarter = s.rtcQuarter := by simp [State.store32]
@[simp] theorem State.store32_rtcPrev (s : State) (a : Addr) (v : Long) : (s.store32 a v).rtcPrev = s.rtcPrev := by simp [State.store32]
@[simp] theorem State.store32_tb1Pre (s : State) (a : Addr) (v : Long) : (s.store32 a v).tb1Pre = s.tb1Pre := by simp [State.store32]
@[simp] theorem State.store32_twPre (s : State) (a : Addr) (v : Long) : (s.store32 a v).twPre = s.twPre := by simp [State.store32]
@[simp] theorem State.store32_eepMem (s : State) (a : Addr) (v : Long) : (s.store32 a v).eepMem = s.eepMem := by simp [State.store32]
@[simp] theorem State.store32_accMem (s : State) (a : Addr) (v : Long) : (s.store32 a v).accMem = s.accMem := by simp [State.store32]
@[simp] theorem State.store32_fb (s : State) (a : Addr) (v : Long) : (s.store32 a v).fb = s.fb := by simp [State.store32]
@[simp] theorem State.store32_irRx (s : State) (a : Addr) (v : Long) : (s.store32 a v).irRx = s.irRx := by simp [State.store32]
@[simp] theorem State.store32_fault (s : State) (a : Addr) (v : Long) : (s.store32 a v).fault = s.fault := by simp [State.store32]
@[simp] theorem State.store32_out (s : State) (a : Addr) (v : Long) : (s.store32 a v).out = s.out := by simp [State.store32]
@[simp] theorem State.store32_stopRequested (s : State) (a : Addr) (v : Long) : (s.store32 a v).stopRequested = s.stopRequested := by simp [State.store32]
@[simp] theorem State.store32_runEnded (s : State) (a : Addr) (v : Long) : (s.store32 a v).runEnded = s.runEnded := by simp [State.store32]
@[simp] theorem State.store32_inputs (s : State) (a : Addr) (v : Long) : (s.store32 a v).inputs = s.inputs := by simp [State.store32]
@[simp] theorem State.store32_wallNow (s : State) (a : Addr) (v : Long) : (s.store32 a v).wallNow = s.wallNow := by simp [State.store32]
@[simp] theorem State.store32_wallQueue (s : State) (a : Addr) (v : Long) : (s.store32 a v).wallQueue = s.wallQueue := by simp [State.store32]
@[simp] theorem State.store32_draws (s : State) (a : Addr) (v : Long) : (s.store32 a v).draws = s.draws := by simp [State.store32]
@[simp] theorem State.store32_x (s : State) (a : Addr) (v : Long) (j : Fin 8) : (s.store32 a v).x j = s.x j := by simp [State.x]

/-! `push16` -/

@[simp] theorem State.push16_cfg (s : State) (v : Half) : (s.push16 v).cfg = s.cfg := by simp [State.push16]
@[simp] theorem State.push16_regs (s : State) (v : Half) : (s.push16 v).regs = s.regs.set spIndex (s.x spIndex - 2) := by simp [State.push16]
@[simp] theorem State.push16_pc (s : State) (v : Half) : (s.push16 v).pc = s.pc := by simp [State.push16]
@[simp] theorem State.push16_ccr (s : State) (v : Half) : (s.push16 v).ccr = s.ccr := by simp [State.push16]
@[simp] theorem State.push16_sleep (s : State) (v : Half) : (s.push16 v).sleep = s.sleep := by simp [State.push16]
@[simp] theorem State.push16_savedPC (s : State) (v : Half) : (s.push16 v).savedPC = s.savedPC := by simp [State.push16]
@[simp] theorem State.push16_savedCCR (s : State) (v : Half) : (s.push16 v).savedCCR = s.savedCCR := by simp [State.push16]
@[simp] theorem State.push16_instrCount (s : State) (v : Half) : (s.push16 v).instrCount = s.instrCount := by simp [State.push16]
@[simp] theorem State.push16_cycleIndex (s : State) (v : Half) : (s.push16 v).cycleIndex = s.cycleIndex := by simp [State.push16]
@[simp] theorem State.push16_rtcInit (s : State) (v : Half) : (s.push16 v).rtcInit = s.rtcInit := by simp [State.push16]
@[simp] theorem State.push16_rtcQuarter (s : State) (v : Half) : (s.push16 v).rtcQuarter = s.rtcQuarter := by simp [State.push16]
@[simp] theorem State.push16_rtcPrev (s : State) (v : Half) : (s.push16 v).rtcPrev = s.rtcPrev := by simp [State.push16]
@[simp] theorem State.push16_tb1Pre (s : State) (v : Half) : (s.push16 v).tb1Pre = s.tb1Pre := by simp [State.push16]
@[simp] theorem State.push16_twPre (s : State) (v : Half) : (s.push16 v).twPre = s.twPre := by simp [State.push16]
@[simp] theorem State.push16_eepMem (s : State) (v : Half) : (s.push16 v).eepMem = s.eepMem := by simp [State.push16]
@[simp] theorem State.push16_accMem (s : State) (v : Half) : (s.push16 v).accMem = s.accMem := by simp [State.push16]
@[simp] theorem State.push16_fb (s : State) (v : Half) : (s.push16 v).fb = s.fb := by simp [State.push16]
@[simp] theorem State.push16_irRx (s : State) (v : Half) : (s.push16 v).irRx = s.irRx := by simp [State.push16]
@[simp] theorem State.push16_fault (s : State) (v : Half) : (s.push16 v).fault = s.fault := by simp [State.push16]
@[simp] theorem State.push16_out (s : State) (v : Half) : (s.push16 v).out = s.out := by simp [State.push16]
@[simp] theorem State.push16_stopRequested (s : State) (v : Half) : (s.push16 v).stopRequested = s.stopRequested := by simp [State.push16]
@[simp] theorem State.push16_runEnded (s : State) (v : Half) : (s.push16 v).runEnded = s.runEnded := by simp [State.push16]
@[simp] theorem State.push16_inputs (s : State) (v : Half) : (s.push16 v).inputs = s.inputs := by simp [State.push16]
@[simp] theorem State.push16_wallNow (s : State) (v : Half) : (s.push16 v).wallNow = s.wallNow := by simp [State.push16]
@[simp] theorem State.push16_wallQueue (s : State) (v : Half) : (s.push16 v).wallQueue = s.wallQueue := by simp [State.push16]
@[simp] theorem State.push16_draws (s : State) (v : Half) : (s.push16 v).draws = s.draws := by simp [State.push16]

/-! `pop16` -/

@[simp] theorem State.pop16_cfg (s : State) : (s.pop16.2).cfg = s.cfg := by simp [State.pop16]
@[simp] theorem State.pop16_pc (s : State) : (s.pop16.2).pc = s.pc := by simp [State.pop16]
@[simp] theorem State.pop16_ccr (s : State) : (s.pop16.2).ccr = s.ccr := by simp [State.pop16]
@[simp] theorem State.pop16_sleep (s : State) : (s.pop16.2).sleep = s.sleep := by simp [State.pop16]
@[simp] theorem State.pop16_savedPC (s : State) : (s.pop16.2).savedPC = s.savedPC := by simp [State.pop16]
@[simp] theorem State.pop16_savedCCR (s : State) : (s.pop16.2).savedCCR = s.savedCCR := by simp [State.pop16]
@[simp] theorem State.pop16_instrCount (s : State) : (s.pop16.2).instrCount = s.instrCount := by simp [State.pop16]
@[simp] theorem State.pop16_cycleIndex (s : State) : (s.pop16.2).cycleIndex = s.cycleIndex := by simp [State.pop16]
@[simp] theorem State.pop16_rtcInit (s : State) : (s.pop16.2).rtcInit = s.rtcInit := by simp [State.pop16]
@[simp] theorem State.pop16_rtcQuarter (s : State) : (s.pop16.2).rtcQuarter = s.rtcQuarter := by simp [State.pop16]
@[simp] theorem State.pop16_rtcPrev (s : State) : (s.pop16.2).rtcPrev = s.rtcPrev := by simp [State.pop16]
@[simp] theorem State.pop16_tb1Pre (s : State) : (s.pop16.2).tb1Pre = s.tb1Pre := by simp [State.pop16]
@[simp] theorem State.pop16_twPre (s : State) : (s.pop16.2).twPre = s.twPre := by simp [State.pop16]
@[simp] theorem State.pop16_tb1Load (s : State) : (s.pop16.2).tb1Load = s.tb1Load := by simp [State.pop16]
@[simp] theorem State.pop16_eep (s : State) : (s.pop16.2).eep = s.eep := by simp [State.pop16]
@[simp] theorem State.pop16_eepMem (s : State) : (s.pop16.2).eepMem = s.eepMem := by simp [State.pop16]
@[simp] theorem State.pop16_acc (s : State) : (s.pop16.2).acc = s.acc := by simp [State.pop16]
@[simp] theorem State.pop16_accMem (s : State) : (s.pop16.2).accMem = s.accMem := by simp [State.pop16]
@[simp] theorem State.pop16_lcd (s : State) : (s.pop16.2).lcd = s.lcd := by simp [State.pop16]
@[simp] theorem State.pop16_fb (s : State) : (s.pop16.2).fb = s.fb := by simp [State.pop16]
@[simp] theorem State.pop16_irRx (s : State) : (s.pop16.2).irRx = s.irRx := by simp [State.pop16]
@[simp] theorem State.pop16_fault (s : State) : (s.pop16.2).fault = s.fault := by simp [State.pop16]
@[simp] theorem State.pop16_out (s : State) : (s.pop16.2).out = s.out := by simp [State.pop16]
@[simp] theorem State.pop16_stopRequested (s : State) : (s.pop16.2).stopRequested = s.stopRequested := by simp [State.pop16]
@[simp] theorem State.pop16_runEnded (s : State) : (s.pop16.2).runEnded = s.runEnded := by simp [State.pop16]
@[simp] theorem State.pop16_inputs (s : State) : (s.pop16.2).inputs = s.inputs := by simp [State.pop16]
@[simp] theorem State.pop16_wallNow (s : State) : (s.pop16.2).wallNow = s.wallNow := by simp [State.pop16]
@[simp] theorem State.pop16_wallQueue (s : State) : (s.pop16.2).wallQueue = s.wallQueue := by simp [State.pop16]
@[simp] theorem State.pop16_draws (s : State) : (s.pop16.2).draws = s.draws := by simp [State.pop16]

/-! `set8` -/

@[simp] theorem State.set8_cfg (s : State) (r : BitVec 4) (v : Byte) : (s.set8 r v).cfg = s.cfg := rfl
@[simp] theorem State.set8_pc (s : State) (r : BitVec 4) (v : Byte) : (s.set8 r v).pc = s.pc := rfl
@[simp] theorem State.set8_ccr (s : State) (r : BitVec 4) (v : Byte) : (s.set8 r v).ccr = s.ccr := rfl
@[simp] theorem State.set8_mem (s : State) (r : BitVec 4) (v : Byte) : (s.set8 r v).mem = s.mem := rfl
@[simp] theorem State.set8_sleep (s : State) (r : BitVec 4) (v : Byte) : (s.set8 r v).sleep = s.sleep := rfl
@[simp] theorem State.set8_savedPC (s : State) (r : BitVec 4) (v : Byte) : (s.set8 r v).savedPC = s.savedPC := rfl
@[simp] theorem State.set8_savedCCR (s : State) (r : BitVec 4) (v : Byte) : (s.set8 r v).savedCCR = s.savedCCR := rfl
@[simp] theorem State.set8_instrCount (s : State) (r : BitVec 4) (v : Byte) : (s.set8 r v).instrCount = s.instrCount := rfl
@[simp] theorem State.set8_cycleIndex (s : State) (r : BitVec 4) (v : Byte) : (s.set8 r v).cycleIndex = s.cycleIndex := rfl
@[simp] theorem State.set8_rtcInit (s : State) (r : BitVec 4) (v : Byte) : (s.set8 r v).rtcInit = s.rtcInit := rfl
@[simp] theorem State.set8_rtcQuarter (s : State) (r : BitVec 4) (v : Byte) : (s.set8 r v).rtcQuarter = s.rtcQuarter := rfl
@[simp] theorem State.set8_rtcPrev (s : State) (r : BitVec 4) (v : Byte) : (s.set8 r v).rtcPrev = s.rtcPrev := rfl
@[simp] theorem State.set8_tb1Pre (s : State) (r : BitVec 4) (v : Byte) : (s.set8 r v).tb1Pre = s.tb1Pre := rfl
@[simp] theorem State.set8_twPre (s : State) (r : BitVec 4) (v : Byte) : (s.set8 r v).twPre = s.twPre := rfl
@[simp] theorem State.set8_tb1Load (s : State) (r : BitVec 4) (v : Byte) : (s.set8 r v).tb1Load = s.tb1Load := rfl
@[simp] theorem State.set8_eep (s : State) (r : BitVec 4) (v : Byte) : (s.set8 r v).eep = s.eep := rfl
@[simp] theorem State.set8_eepMem (s : State) (r : BitVec 4) (v : Byte) : (s.set8 r v).eepMem = s.eepMem := rfl
@[simp] theorem State.set8_acc (s : State) (r : BitVec 4) (v : Byte) : (s.set8 r v).acc = s.acc := rfl
@[simp] theorem State.set8_accMem (s : State) (r : BitVec 4) (v : Byte) : (s.set8 r v).accMem = s.accMem := rfl
@[simp] theorem State.set8_lcd (s : State) (r : BitVec 4) (v : Byte) : (s.set8 r v).lcd = s.lcd := rfl
@[simp] theorem State.set8_fb (s : State) (r : BitVec 4) (v : Byte) : (s.set8 r v).fb = s.fb := rfl
@[simp] theorem State.set8_irRx (s : State) (r : BitVec 4) (v : Byte) : (s.set8 r v).irRx = s.irRx := rfl
@[simp] theorem State.set8_fault (s : State) (r : BitVec 4) (v : Byte) : (s.set8 r v).fault = s.fault := rfl
@[simp] theorem State.set8_out (s : State) (r : BitVec 4) (v : Byte) : (s.set8 r v).out = s.out := rfl
@[simp] theorem State.set8_stopRequested (s : State) (r : BitVec 4) (v : Byte) : (s.set8 r v).stopRequested = s.stopRequested := rfl
@[simp] theorem State.set8_runEnded (s : State) (r : BitVec 4) (v : Byte) : (s.set8 r v).runEnded = s.runEnded := rfl
@[simp] theorem State.set8_inputs (s : State) (r : BitVec 4) (v : Byte) : (s.set8 r v).inputs = s.inputs := rfl
@[simp] theorem State.set8_wallNow (s : State) (r : BitVec 4) (v : Byte) : (s.set8 r v).wallNow = s.wallNow := rfl
@[simp] theorem State.set8_wallQueue (s : State) (r : BitVec 4) (v : Byte) : (s.set8 r v).wallQueue = s.wallQueue := rfl
@[simp] theorem State.set8_draws (s : State) (r : BitVec 4) (v : Byte) : (s.set8 r v).draws = s.draws := rfl
@[simp] theorem State.set8_raw (s : State) (r : BitVec 4) (v : Byte) (c : Addr) : (s.set8 r v).raw c = s.raw c := rfl

/-! `set16` -/

@[simp] theorem State.set16_cfg (s : State) (r : BitVec 4) (v : Half) : (s.set16 r v).cfg = s.cfg := rfl
@[simp] theorem State.set16_pc (s : State) (r : BitVec 4) (v : Half) : (s.set16 r v).pc = s.pc := rfl
@[simp] theorem State.set16_ccr (s : State) (r : BitVec 4) (v : Half) : (s.set16 r v).ccr = s.ccr := rfl
@[simp] theorem State.set16_mem (s : State) (r : BitVec 4) (v : Half) : (s.set16 r v).mem = s.mem := rfl
@[simp] theorem State.set16_sleep (s : State) (r : BitVec 4) (v : Half) : (s.set16 r v).sleep = s.sleep := rfl
@[simp] theorem State.set16_savedPC (s : State) (r : BitVec 4) (v : Half) : (s.set16 r v).savedPC = s.savedPC := rfl
@[simp] theorem State.set16_savedCCR (s : State) (r : BitVec 4) (v : Half) : (s.set16 r v).savedCCR = s.savedCCR := rfl
@[simp] theorem State.set16_instrCount (s : State) (r : BitVec 4) (v : Half) : (s.set16 r v).instrCount = s.instrCount := rfl
@[simp] theorem State.set16_cycleIndex (s : State) (r : BitVec 4) (v : Half) : (s.set16 r v).cycleIndex = s.cycleIndex := rfl
@[simp] theorem State.set16_rtcInit (s : State) (r : BitVec 4) (v : Half) : (s.set16 r v).rtcInit = s.rtcInit := rfl
@[simp] theorem State.set16_rtcQuarter (s : State) (r : BitVec 4) (v : Half) : (s.set16 r v).rtcQuarter = s.rtcQuarter := rfl
@[simp] theorem State.set16_rtcPrev (s : State) (r : BitVec 4) (v : Half) : (s.set16 r v).rtcPrev = s.rtcPrev := rfl
@[simp] theorem State.set16_tb1Pre (s : State) (r : BitVec 4) (v : Half) : (s.set16 r v).tb1Pre = s.tb1Pre := rfl
@[simp] theorem State.set16_twPre (s : State) (r : BitVec 4) (v : Half) : (s.set16 r v).twPre = s.twPre := rfl
@[simp] theorem State.set16_tb1Load (s : State) (r : BitVec 4) (v : Half) : (s.set16 r v).tb1Load = s.tb1Load := rfl
@[simp] theorem State.set16_eep (s : State) (r : BitVec 4) (v : Half) : (s.set16 r v).eep = s.eep := rfl
@[simp] theorem State.set16_eepMem (s : State) (r : BitVec 4) (v : Half) : (s.set16 r v).eepMem = s.eepMem := rfl
@[simp] theorem State.set16_acc (s : State) (r : BitVec 4) (v : Half) : (s.set16 r v).acc = s.acc := rfl
@[simp] theorem State.set16_accMem (s : State) (r : BitVec 4) (v : Half) : (s.set16 r v).accMem = s.accMem := rfl
@[simp] theorem State.set16_lcd (s : State) (r : BitVec 4) (v : Half) : (s.set16 r v).lcd = s.lcd := rfl
@[simp] theorem State.set16_fb (s : State) (r : BitVec 4) (v : Half) : (s.set16 r v).fb = s.fb := rfl
@[simp] theorem State.set16_irRx (s : State) (r : BitVec 4) (v : Half) : (s.set16 r v).irRx = s.irRx := rfl
@[simp] theorem State.set16_fault (s : State) (r : BitVec 4) (v : Half) : (s.set16 r v).fault = s.fault := rfl
@[simp] theorem State.set16_out (s : State) (r : BitVec 4) (v : Half) : (s.set16 r v).out = s.out := rfl
@[simp] theorem State.set16_stopRequested (s : State) (r : BitVec 4) (v : Half) : (s.set16 r v).stopRequested = s.stopRequested := rfl
@[simp] theorem State.set16_runEnded (s : State) (r : BitVec 4) (v : Half) : (s.set16 r v).runEnded = s.runEnded := rfl
@[simp] theorem State.set16_inputs (s : State) (r : BitVec 4) (v : Half) : (s.set16 r v).inputs = s.inputs := rfl
@[simp] theorem State.set16_wallNow (s : State) (r : BitVec 4) (v : Half) : (s.set16 r v).wallNow = s.wallNow := rfl
@[simp] theorem State.set16_wallQueue (s : State) (r : BitVec 4) (v : Half) : (s.set16 r v).wallQueue = s.wallQueue := rfl
@[simp] theorem State.set16_draws (s : State) (r : BitVec 4) (v : Half) : (s.set16 r v).draws = s.draws := rfl
@[simp] theorem State.set16_raw (s : State) (r : BitVec 4) (v : Half) (c : Addr) : (s.set16 r v).raw c = s.raw c := rfl

/-! `set32` -/

@[simp] theorem State.set32_cfg (s : State) (r : BitVec 4) (v : Long) : (s.set32 r v).cfg = s.cfg := rfl
@[simp] theorem State.set32_pc (s : State) (r : BitVec 4) (v : Long) : (s.set32 r v).pc = s.pc := rfl
@[simp] theorem State.set32_ccr (s : State) (r : BitVec 4) (v : Long) : (s.set32 r v).ccr = s.ccr := rfl
@[simp] theorem State.set32_mem (s : State) (r : BitVec 4) (v : Long) : (s.set32 r v).mem = s.mem := rfl
@[simp] theorem State.set32_sleep (s : State) (r : BitVec 4) (v : Long) : (s.set32 r v).sleep = s.sleep := rfl
@[simp] theorem State.set32_savedPC (s : State) (r : BitVec 4) (v : Long) : (s.set32 r v).savedPC = s.savedPC := rfl
@[simp] theorem State.set32_savedCCR (s : State) (r : BitVec 4) (v : Long) : (s.set32 r v).savedCCR = s.savedCCR := rfl
@[simp] theorem State.set32_instrCount (s : State) (r : BitVec 4) (v : Long) : (s.set32 r v).instrCount = s.instrCount := rfl
@[simp] theorem State.set32_cycleIndex (s : State) (r : BitVec 4) (v : Long) : (s.set32 r v).cycleIndex = s.cycleIndex := rfl
@[simp] theorem State.set32_rtcInit (s : State) (r : BitVec 4) (v : Long) : (s.set32 r v).rtcInit = s.rtcInit := rfl
@[simp] theorem State.set32_rtcQuarter (s : State) (r : BitVec 4) (v : Long) : (s.set32 r v).rtcQuarter = s.rtcQuarter := rfl
@[simp] theorem State.set32_rtcPrev (s : State) (r : BitVec 4) (v : Long) : (s.set32 r v).rtcPrev = s.rtcPrev := rfl
@[simp] theorem State.set32_tb1Pre (s : State) (r : BitVec 4) (v : Long) : (s.set32 r v).tb1Pre = s.tb1Pre := rfl
@[simp] theorem State.set32_twPre (s : State) (r : BitVec 4) (v : Long) : (s.set32 r v).twPre = s.twPre := rfl
@[simp] theorem State.set32_tb1Load (s : State) (r : BitVec 4) (v : Long) : (s.set32 r v).tb1Load = s.tb1Load := rfl
@[simp] theorem State.set32_eep (s : State) (r : BitVec 4) (v : Long) : (s.set32 r v).eep = s.eep := rfl
@[simp] theorem State.set32_eepMem (s : State) (r : BitVec 4) (v : Long) : (s.set32 r v).eepMem = s.eepMem := rfl
@[simp] theorem State.set32_acc (s : State) (r : BitVec 4) (v : Long) : (s.set32 r v).acc = s.acc := rfl
@[simp] theorem State.set32_accMem (s : State) (r : BitVec 4) (v : Long) : (s.set32 r v).accMem = s.accMem := rfl
@[simp] theorem State.set32_lcd (s : State) (r : BitVec 4) (v : Long) : (s.set32 r v).lcd = s.lcd := rfl
@[simp] theorem State.set32_fb (s : State) (r : BitVec 4) (v : Long) : (s.set32 r v).fb = s.fb := rfl
@[simp] theorem State.set32_irRx (s : State) (r : BitVec 4) (v : Long) : (s.set32 r v).irRx = s.irRx := rfl
@[simp] theorem State.set32_fault (s : State) (r : BitVec 4) (v : Long) : (s.set32 r v).fault = s.fault := rfl
@[simp] theorem State.set32_out (s : State) (r : BitVec 4) (v : Long) : (s.set32 r v).out = s.out := rfl
@[simp] theorem State.set32_stopRequested (s : State) (r : BitVec 4) (v : Long) : (s.set32 r v).stopRequested = s.stopRequested := rfl
@[simp] theorem State.set32_runEnded (s : State) (r : BitVec 4) (v : Long) : (s.set32 r v).runEnded = s.runEnded := rfl
@[simp] theorem State.set32_inputs (s : State) (r : BitVec 4) (v : Long) : (s.set32 r v).inputs = s.inputs := rfl
@[simp] theorem State.set32_wallNow (s : State) (r : BitVec 4) (v : Long) : (s.set32 r v).wallNow = s.wallNow := rfl
@[simp] theorem State.set32_wallQueue (s : State) (r : BitVec 4) (v : Long) : (s.set32 r v).wallQueue = s.wallQueue := rfl
@[simp] theorem State.set32_draws (s : State) (r : BitVec 4) (v : Long) : (s.set32 r v).draws = s.draws := rfl
@[simp] theorem State.set32_raw (s : State) (r : BitVec 4) (v : Long) (c : Addr) : (s.set32 r v).raw c = s.raw c := rfl

end Sys2Proof.Machine
end

