-- ==== Sys2Proof/Laws/Registers.lean ====
section
/-! SUPPORT. The general registers: what a write of a register or of a view leaves of every register and view
(`10_state.md` rules R100-R105). -/

namespace Sys2Proof.Machine

@[simp] theorem State.x_setX (s : State) (i j : Fin 8) (v : Long) :
    (s.setX i v).x j = if i = j then v else s.x j := by
  simp only [State.x, State.setX_regs, Fin.getElem_fin, Vector.getElem_set, Fin.ext_iff]

theorem State.x_setX_self (s : State) (i : Fin 8) (v : Long) : (s.setX i v).x i = v := by simp

theorem State.x_setX_of_ne {i j : Fin 8} (s : State) (v : Long) (h : i ≠ j) : (s.setX i v).x j = s.x j := by simp [h]

/-- Two register files are equal when their registers are. -/
theorem State.regs_ext {s t : State} (h : ∀ i, s.x i = t.x i) : s.regs = t.regs := by
  apply Vector.ext
  intro i hi
  exact h ⟨i, hi⟩

/-! ### Bits of joined values, at the widths the model joins -/

theorem getLsbD_join_24_8 (x : BitVec 24) (y : BitVec 8) (i : Nat) :
    BitVec.getLsbD (w := 32) (x ++ y) i = if i < 8 then y.getLsbD i else x.getLsbD (i - 8) :=
  BitVec.getLsbD_append

theorem getLsbD_join_16_16 (x y : BitVec 16) (i : Nat) :
    BitVec.getLsbD (w := 32) (x ++ y) i = if i < 16 then y.getLsbD i else x.getLsbD (i - 16) :=
  BitVec.getLsbD_append

theorem getLsbD_join_16_8_8 (x : BitVec 16) (y z : BitVec 8) (i : Nat) :
    BitVec.getLsbD (w := 32) (x ++ y ++ z) i =
      if i < 8 then z.getLsbD i else if i - 8 < 8 then y.getLsbD (i - 8) else x.getLsbD (i - 8 - 8) := by
  rw [BitVec.getLsbD_append, BitVec.getLsbD_append]

theorem getLsbD_join_8_8 (x y : BitVec 8) (i : Nat) :
    BitVec.getLsbD (w := 16) (x ++ y) i = if i < 8 then y.getLsbD i else x.getLsbD (i - 8) :=
  BitVec.getLsbD_append

/-- A value is its high half joined to its low half. -/
theorem half_join (v : Half) : (v.extractLsb' 8 8 ++ v.extractLsb' 0 8 : Half) = v := by
  apply BitVec.eq_of_getLsbD_eq
  intro i hi
  rw [getLsbD_join_8_8]
  split
  · simp [*]
  · simp only [BitVec.getLsbD_extractLsb', show i - 8 < 8 by omega, decide_true, Bool.true_and]
    congr 1; omega

theorem long_join (v : Long) : (v.extractLsb' 16 16 ++ v.extractLsb' 0 16 : Long) = v := by
  apply BitVec.eq_of_getLsbD_eq
  intro i hi
  rw [getLsbD_join_16_16]
  split
  · simp [*]
  · simp only [BitVec.getLsbD_extractLsb', show i - 16 < 16 by omega, decide_true, Bool.true_and]
    congr 1; omega

@[simp] theorem join_high (a b : Byte) : BitVec.extractLsb' (n := 16) 8 8 (a ++ b) = a := by
  apply BitVec.eq_of_getLsbD_eq
  intro i hi
  simp [hi, getLsbD_join_8_8]

@[simp] theorem join_low (a b : Byte) : BitVec.extractLsb' (n := 16) 0 8 (a ++ b) = b := by
  apply BitVec.eq_of_getLsbD_eq
  intro i hi
  simp [hi, getLsbD_join_8_8]

@[simp] theorem join_high_half (a b : Half) : BitVec.extractLsb' (n := 32) 16 16 (a ++ b) = a := by
  apply BitVec.eq_of_getLsbD_eq
  intro i hi
  simp [hi, getLsbD_join_16_16]

@[simp] theorem join_low_half (a b : Half) : BitVec.extractLsb' (n := 32) 0 16 (a ++ b) = b := by
  apply BitVec.eq_of_getLsbD_eq
  intro i hi
  simp [hi, getLsbD_join_16_16]

/-! ### The bytes and halves of one register (`10_state.md` rules R102, R103) -/

theorem byteOf_withByte (r : Sel) (w : Long) (v : Byte) : byteOf r (withByte r w v) = v := by
  unfold byteOf withByte
  split
  · apply BitVec.eq_of_getLsbD_eq
    intro i hi
    simp [hi, getLsbD_join_24_8]
  · apply BitVec.eq_of_getLsbD_eq
    intro i hi
    simp [hi, getLsbD_join_16_8_8]

theorem byteOf_withByte_other {r q : Sel} (h : r.msb ≠ q.msb) (w : Long) (v : Byte) :
    byteOf q (withByte r w v) = byteOf q w := by
  unfold byteOf withByte
  cases hr : r.msb <;> cases hq : q.msb <;> simp only [hr, hq, ne_eq, not_true] at h
  · apply BitVec.eq_of_getLsbD_eq
    intro i hi
    simp [hi, getLsbD_join_16_8_8]
  · apply BitVec.eq_of_getLsbD_eq
    intro i hi
    simp only [Bool.false_eq_true, if_true, if_false, BitVec.getLsbD_extractLsb', getLsbD_join_24_8,
      show ¬ (8 + i < 8) by omega, show 8 + i - 8 < 24 by omega, hi, decide_true, Bool.true_and]
    congr 1; omega

theorem high_withByte (r : Sel) (w : Long) (v : Byte) :
    (withByte r w v).extractLsb' 16 16 = w.extractLsb' 16 16 := by
  unfold withByte
  split
  · apply BitVec.eq_of_getLsbD_eq
    intro i hi
    simp only [BitVec.getLsbD_extractLsb', getLsbD_join_24_8, hi, decide_true, Bool.true_and,
      show ¬ (16 + i < 8) by omega, if_false, show 16 + i - 8 < 24 by omega]
    congr 1; omega
  · apply BitVec.eq_of_getLsbD_eq
    intro i hi
    simp only [BitVec.getLsbD_extractLsb', getLsbD_join_16_8_8, hi, decide_true, Bool.true_and,
      show ¬ (16 + i < 8) by omega, if_false, show ¬ (16 + i - 8 < 8) by omega,
      show 16 + i - 8 - 8 < 16 by omega]
    congr 1; omega

theorem halfOf_withHalf (r : Sel) (w : Long) (v : Half) : halfOf r (withHalf r w v) = v := by
  unfold halfOf withHalf
  split <;> simp

theorem halfOf_withHalf_other {r q : Sel} (h : r.msb ≠ q.msb) (w : Long) (v : Half) :
    halfOf q (withHalf r w v) = halfOf q w := by
  unfold halfOf withHalf
  cases hr : r.msb <;> cases hq : q.msb <;> simp only [hr, hq, ne_eq, not_true] at h <;> simp

/-- A selector is its register and its bit 3 (`10_state.md` rule R101). -/
theorem sel_ext {r q : Sel} (hi : selIndex r = selIndex q) (hm : r.msb = q.msb) : r = q := by
  revert r q; decide

/-! ### The views of the state -/

theorem State.get8_set8 (s : State) (r q : Sel) (v : Byte) :
    (s.set8 r v).get8 q = if q = r then v else s.get8 q := by
  unfold State.get8 State.set8
  rw [State.x_setX]
  by_cases hi : selIndex r = selIndex q
  · rw [if_pos hi, hi]
    by_cases hm : r.msb = q.msb
    · obtain rfl := sel_ext hi hm
      simp [byteOf_withByte]
    · rw [byteOf_withByte_other hm, if_neg]
      rintro rfl; exact hm rfl
  · rw [if_neg hi, if_neg]
    rintro rfl; exact hi rfl

/-- A byte write leaves the high half of every register. -/
theorem State.high_set8 (s : State) (r : Sel) (v : Byte) (i : Fin 8) :
    ((s.set8 r v).x i).extractLsb' 16 16 = (s.x i).extractLsb' 16 16 := by
  unfold State.set8
  rw [State.x_setX]
  split
  · subst_vars; exact high_withByte ..
  · rfl

theorem State.get16_set16 (s : State) (r q : Sel) (v : Half) :
    (s.set16 r v).get16 q = if q = r then v else s.get16 q := by
  unfold State.get16 State.set16
  rw [State.x_setX]
  by_cases hi : selIndex r = selIndex q
  · rw [if_pos hi, hi]
    by_cases hm : r.msb = q.msb
    · obtain rfl := sel_ext hi hm
      simp [halfOf_withHalf]
    · rw [halfOf_withHalf_other hm, if_neg]
      rintro rfl; exact hm rfl
  · rw [if_neg hi, if_neg]
    rintro rfl; exact hi rfl

theorem State.get32_set32 (s : State) (r q : ErSel) (v : Long) :
    (s.set32 r v).get32 q = if selIndex q = selIndex r then v else s.get32 q := by
  unfold State.get32 State.set32
  rw [State.x_setX]
  by_cases h : selIndex r = selIndex q
  · simp [h]
  · simp [h, Ne.symm h]

end Sys2Proof.Machine
end

