-- ==== Sys2Proof/Laws/Memory.lean ====
section
/-! SUPPORT. Byte stores: a read after a write, and that every operation keeps the canonical form. -/

namespace Sys2Proof.Machine

/-! ### Reads after writes -/

theorem Memory.read_erase (d : Byte) (m : Memory) (a b : Nat) :
    (m.erase a).read d b = if b = a then d else m.read d b := by
  induction m with
  | nil => simp [Memory.erase, Memory.read]
  | cons p m ih =>
    obtain ⟨k, v⟩ := p
    simp only [Memory.erase, Memory.read]
    by_cases hka : k = a
    · rw [if_pos hka, ih]
      by_cases hb : b = a
      · simp [hb]
      · rw [if_neg hb, if_neg hb, if_neg]; omega
    · rw [if_neg hka, Memory.read, ih]
      by_cases hkb : k = b
      · subst hkb; simp [hka]
      · simp [hkb]

theorem Memory.read_erase_self (d : Byte) (m : Memory) (a : Nat) : (m.erase a).read d a = d := by
  simp [Memory.read_erase]

theorem Memory.read_insert (d : Byte) (m : Memory) (a b : Nat) (v : Byte) (h : ∀ p ∈ m, p.1 ≠ a) :
    (m.insert a v).read d b = if b = a then v else m.read d b := by
  induction m with
  | nil => simp [Memory.insert, Memory.read, eq_comm]
  | cons p m ih =>
    obtain ⟨k, w⟩ := p
    have hk : k ≠ a := h (k, w) (by simp)
    simp only [Memory.insert]
    split
    · simp only [Memory.read, eq_comm]
    · simp only [Memory.read, ih (fun q hq => h q (by simp [hq]))]
      by_cases hkb : k = b
      · subst hkb; simp [hk]
      · simp [hkb]

theorem Memory.not_mem_erase (m : Memory) (a : Nat) : ∀ p ∈ m.erase a, p.1 ≠ a := by
  induction m with
  | nil => simp [Memory.erase]
  | cons p m ih =>
    obtain ⟨k, v⟩ := p
    simp only [Memory.erase]
    split
    · exact ih
    · intro q hq
      rcases List.mem_cons.1 hq with rfl | hq
      · assumption
      · exact ih q hq

/-- A read after a write: the value written at its address, and every other byte as before. -/
theorem Memory.read_write (d : Byte) (m : Memory) (a b : Nat) (v : Byte) :
    (m.write d a v).read d b = if b = a then v else m.read d b := by
  unfold Memory.write
  split
  · subst_vars; rw [Memory.read_erase]
  · rw [Memory.read_insert _ _ _ _ _ (Memory.not_mem_erase m a), Memory.read_erase]
    split <;> rfl

@[simp] theorem Memory.byte_setByte (m : Memory) (a b : Addr) (v : Byte) :
    (m.setByte a v).byte b = if b = a then v else m.byte b := by
  unfold Memory.byte Memory.setByte
  rw [Memory.read_write]
  simp only [BitVec.toNat_inj]

@[simp] theorem State.raw_rawSet (s : State) (a b : Addr) (v : Byte) :
    (s.rawSet a v).raw b = if b = a then v else s.raw b := Memory.byte_setByte ..

/-! ### The canonical form -/

/-- A store in form from a higher address on is in form from a lower one on. -/
theorem Memory.wfFrom_mono {d : Byte} {bound low low' : Nat} {m : Memory} (h : low ≤ low')
    (hm : Memory.wfFrom d bound low' m = true) : Memory.wfFrom d bound low m = true := by
  cases m with
  | nil => rfl
  | cons p m =>
    obtain ⟨k, v⟩ := p
    simp only [Memory.wfFrom, Bool.and_eq_true, decide_eq_true_eq, bne_iff_ne] at *
    exact ⟨⟨⟨by omega, hm.1.1.2⟩, hm.1.2⟩, hm.2⟩

theorem Memory.wfFrom_erase {d : Byte} {bound low : Nat} {m : Memory} (a : Nat)
    (hm : Memory.wfFrom d bound low m = true) : Memory.wfFrom d bound low (m.erase a) = true := by
  induction m generalizing low with
  | nil => rfl
  | cons p m ih =>
    obtain ⟨k, v⟩ := p
    simp only [Memory.wfFrom, Bool.and_eq_true, decide_eq_true_eq, bne_iff_ne] at hm
    simp only [Memory.erase]
    split
    · exact Memory.wfFrom_mono (by omega) (ih hm.2)
    · simp only [Memory.wfFrom, Bool.and_eq_true, decide_eq_true_eq, bne_iff_ne]
      exact ⟨hm.1, ih hm.2⟩

theorem Memory.wfFrom_insert {d : Byte} {bound low a : Nat} {v : Byte} {m : Memory} (hv : v ≠ d) (ha : a < bound)
    (hl : low ≤ a) (hm : Memory.wfFrom d bound low m = true) (hn : ∀ p ∈ m, p.1 ≠ a) :
    Memory.wfFrom d bound low (m.insert a v) = true := by
  induction m generalizing low with
  | nil => simp [Memory.insert, Memory.wfFrom, hv, ha, hl]
  | cons p m ih =>
    obtain ⟨k, w⟩ := p
    have hk : k ≠ a := hn (k, w) (by simp)
    simp only [Memory.wfFrom, Bool.and_eq_true, decide_eq_true_eq, bne_iff_ne] at hm
    simp only [Memory.insert]
    split
    · simp only [Memory.wfFrom, Bool.and_eq_true, decide_eq_true_eq, bne_iff_ne]
      exact ⟨⟨⟨hl, ha⟩, hv⟩, ⟨⟨by omega, hm.1.1.2⟩, hm.1.2⟩, hm.2⟩
    · simp only [Memory.wfFrom, Bool.and_eq_true, decide_eq_true_eq, bne_iff_ne]
      exact ⟨hm.1, ih (by omega) hm.2 (fun q hq => hn q (by simp [hq]))⟩

/-- A write below the bound keeps the canonical form. -/
theorem Memory.wfFor_write {d : Byte} {bound a : Nat} {m : Memory} (v : Byte) (ha : a < bound)
    (hm : m.wfFor d bound = true) : (m.write d a v).wfFor d bound = true := by
  unfold Memory.wfFor Memory.write at *
  split
  · exact Memory.wfFrom_erase a hm
  · exact Memory.wfFrom_insert ‹_› ha (Nat.zero_le _) (Memory.wfFrom_erase a hm) (Memory.not_mem_erase m a)

theorem Memory.wf_setByte {m : Memory} (a : Addr) (v : Byte) (hm : m.wf = true) : (m.setByte a v).wf = true :=
  Memory.wfFor_write v a.isLt hm

theorem Memory.wf_setBit {m : Memory} (f : BitLoc) (v : Bool) (hm : m.wf = true) : (m.setBit f v).wf = true :=
  Memory.wf_setByte _ _ hm

theorem Memory.wf_readHook {m : Memory} (io : IoMap) (a : Addr) (hm : m.wf = true) : (m.readHook io a).wf = true := by
  unfold Memory.readHook
  split <;> split <;> repeat' first | exact hm | apply Memory.wf_setBit

theorem Memory.wf_writeHook {m : Memory} (io : IoMap) (a : Addr) (hm : m.wf = true) :
    (m.writeHook io a).wf = true := by
  unfold Memory.writeHook
  split <;> split <;> repeat' first | exact hm | apply Memory.wf_setBit

/-- Two stores in canonical form that read alike at every address are equal data. -/
theorem Memory.eq_of_read_eq {d : Byte} {bound low : Nat} {m n : Memory} (hm : Memory.wfFrom d bound low m = true)
    (hn : Memory.wfFrom d bound low n = true) (h : ∀ a, m.read d a = n.read d a) : m = n := by
  have below : ∀ {low : Nat} {m : Memory} (a : Nat), Memory.wfFrom d bound low m = true → a < low → m.read d a = d := by
    intro low m
    induction m generalizing low with
    | nil => intros; rfl
    | cons p m ih =>
      obtain ⟨k, v⟩ := p
      intro a hm ha
      simp only [Memory.wfFrom, Bool.and_eq_true, decide_eq_true_eq, bne_iff_ne] at hm
      rw [Memory.read, if_neg (by omega)]
      exact ih a hm.2 (by omega)
  induction m generalizing n low with
  | nil =>
    cases n with
    | nil => rfl
    | cons q n =>
      obtain ⟨k, v⟩ := q
      simp only [Memory.wfFrom, Bool.and_eq_true, decide_eq_true_eq, bne_iff_ne] at hn
      exact absurd (by simpa [Memory.read] using (h k).symm) hn.1.2
  | cons p m ih =>
    obtain ⟨k, v⟩ := p
    cases n with
    | nil =>
      simp only [Memory.wfFrom, Bool.and_eq_true, decide_eq_true_eq, bne_iff_ne] at hm
      exact absurd (by simpa [Memory.read] using h k) hm.1.2
    | cons q n =>
      obtain ⟨l, w⟩ := q
      simp only [Memory.wfFrom, Bool.and_eq_true, decide_eq_true_eq, bne_iff_ne] at hm hn
      have hkl : k = l := by
        rcases Nat.lt_trichotomy k l with hlt | heq | hgt
        · have := h k
          rw [Memory.read, if_pos rfl, Memory.read, if_neg (by omega), below k hn.2 (by omega)] at this
          exact absurd this hm.1.2
        · exact heq
        · have := h l
          rw [Memory.read, if_neg (by omega), below l hm.2 (by omega), Memory.read, if_pos rfl] at this
          exact absurd this.symm hn.1.2
      subst hkl
      have hvw : v = w := by simpa [Memory.read] using h k
      subst hvw
      congr 1
      refine ih hm.2 hn.2 fun a => ?_
      by_cases ha : k = a
      · subst ha
        rw [below k hm.2 (by omega), below k hn.2 (by omega)]
      · simpa [Memory.read, ha] using h a

end Sys2Proof.Machine
end

