-- ==== Sys2Proof/Laws/Access.lean ====
section
/-! SUPPORT. Firmware's loads and stores, said once: memory after, as a function of the address; the load latch; the
device protocols; and everything else as it was (`20_memory.md` rules R210-R213). -/

namespace Sys2Proof.Machine

/-! ### Memory after an access -/

theorem Memory.byte_setBit (m : Memory) (f : BitLoc) (v : Bool) (x : Addr) :
    (m.setBit f v).byte x = if x = f.addr then putBit (m.byte f.addr) f.bit v else m.byte x := Memory.byte_setByte ..

theorem State.raw_setBit (s : State) (f : BitLoc) (v : Bool) (x : Addr) :
    (s.setBit f v).raw x = if x = f.addr then putBit (s.raw f.addr) f.bit v else s.raw x := Memory.byte_setByte ..

/-- A bit cleared, as a function of the address. -/
theorem Memory.image_clear (m : Memory) (f : BitLoc) : (m.setBit f false).byte = Image.clear m.byte f := by
  funext x; rw [Memory.byte_setBit]; rfl

/-- A byte written, as a function of the address. -/
theorem Memory.image_put (m : Memory) (a : Addr) (b : Byte) : (m.setByte a b).byte = Image.put m.byte a b := by
  funext x; exact Memory.byte_setByte ..

theorem State.image_readHook (s : State) (a : Addr) : (s.readHook a).raw = Image.read s.cfg.io s.raw a := by
  have h : (s.readHook a).raw = (s.mem.readHook s.cfg.io a).byte := rfl
  rw [h]; unfold Memory.readHook Image.read
  split <;> split <;> simp only [Memory.image_clear] <;> rfl

theorem State.image_load8 (s : State) (a : Addr) : (s.load8 a).2.raw = Image.read s.cfg.io s.raw a := s.image_readHook a

theorem State.image_store8 (s : State) (a : Addr) (b : Byte) : (s.store8 a b).raw = Image.write s.cfg.io s.raw a b := by
  have h : (s.store8 a b).raw = ((s.mem.setByte a b).writeHook s.cfg.io a).byte := rfl
  rw [h]; unfold Memory.writeHook Image.write
  split <;> split <;> simp only [Memory.image_clear, Memory.image_put] <;> rfl

theorem State.image_store16 (s : State) (a : Addr) (v : Half) :
    (s.store16 a v).raw = Image.writes s.cfg.io s.raw a (bytes16 v) := by
  unfold State.store16; rw [State.image_store8, State.image_store8]; rfl

theorem State.image_store32 (s : State) (a : Addr) (v : Long) :
    (s.store32 a v).raw = Image.writes s.cfg.io s.raw a (bytes32 v) := by
  have h2 : a + 2 = a + 1 + 1 := by rw [BitVec.add_assoc]; rfl
  have e : ∀ w : Long, bytes16 (w.extractLsb' 16 16) ++ bytes16 (w.extractLsb' 0 16) = bytes32 w := by
    intro w
    simp only [bytes16, bytes32, List.cons_append, List.nil_append, List.cons.injEq, and_true]
    refine ⟨?_, ?_, ?_, ?_⟩ <;> (apply BitVec.eq_of_getLsbD_eq; intro i hi; interval_cases i <;> simp)
  unfold State.store32
  rw [State.image_store16, State.image_store16, ← e v, h2]; rfl

theorem State.image_load16 (s : State) (a : Addr) :
    (s.load16 a).2.raw = (Image.reads s.cfg.io s.raw a 2).2 := by
  show ((s.readHook a).readHook (a + 1)).raw = _
  rw [State.image_readHook, State.image_readHook]; rfl

theorem State.image_load32 (s : State) (a : Addr) :
    (s.load32 a).2.raw = (Image.reads s.cfg.io s.raw a 4).2 := by
  have h2 : a + 2 = a + 1 + 1 := by rw [BitVec.add_assoc]; rfl
  show ((s.load16 a).2.load16 (a + 2)).2.raw = _
  rw [State.image_load16, State.image_load16, h2]; rfl

/-! ### The value of a load -/

theorem bigEndian_two (x y : Byte) : bigEndian [x, y] = (x ++ y : Half).toNat := by
  rw [BitVec.toNat_append, ← Nat.shiftLeft_add_eq_or_of_lt y.isLt]
  simp [bigEndian, Nat.shiftLeft_eq, Nat.mul_comm]

theorem bigEndian_four (x y z w : Byte) : bigEndian [x, y, z, w] = ((x ++ y : Half) ++ (z ++ w : Half) : Long).toNat := by
  rw [BitVec.toNat_append, ← Nat.shiftLeft_add_eq_or_of_lt (BitVec.isLt _), ← bigEndian_two, ← bigEndian_two]
  simp [bigEndian, Nat.shiftLeft_eq]; omega

theorem State.load8_value (s : State) (a : Addr) : (s.load8 a).1.toNat = readsAs s a 1 := by
  show (s.raw a).toNat = 256 * 0 + (s.raw a).toNat
  simp

theorem State.load16_value (s : State) (a : Addr) : (s.load16 a).1.toNat = readsAs s a 2 := by
  have h : (s.load16 a).1 = s.raw a ++ (s.readHook a).raw (a + 1) := rfl
  rw [h, ← bigEndian_two, State.image_readHook]; rfl

theorem State.load32_value (s : State) (a : Addr) : (s.load32 a).1.toNat = readsAs s a 4 := by
  have h2 : a + 2 = a + 1 + 1 := by rw [BitVec.add_assoc]; rfl
  have h : (s.load32 a).1 = (s.raw a ++ (s.readHook a).raw (a + 1))
      ++ ((s.load16 a).2.raw (a + 2) ++ ((s.load16 a).2.readHook (a + 2)).raw (a + 2 + 1)) := rfl
  rw [h, ← bigEndian_four, State.image_readHook, State.image_readHook, State.image_load16, h2]; rfl

/-! ### Frames -/

theorem State.onlyLoaded.trans {s m t : State} (h₁ : s.onlyLoaded m) (h₂ : m.onlyLoaded t) : s.onlyLoaded t := by
  unfold State.onlyLoaded at *
  calc t = { m with mem := t.mem } := h₂
    _ = _ := by rw [h₁]

theorem State.onlyStored.trans {s m t : State} (h₁ : s.onlyStored m) (h₂ : m.onlyStored t) : s.onlyStored t := by
  unfold State.onlyStored at *
  calc t = { m with mem := t.mem, tb1Load := t.tb1Load, eep := t.eep, acc := t.acc, lcd := t.lcd } := h₂
    _ = _ := by rw [h₁]

theorem State.onlyLoaded.stored {s t : State} (h : s.onlyLoaded t) : s.onlyStored t := by
  unfold State.onlyLoaded State.onlyStored at *
  rw [h]

theorem State.onlyLoaded_readHook (s : State) (a : Addr) : s.onlyLoaded (s.readHook a) := rfl
theorem State.onlyLoaded_load8 (s : State) (a : Addr) : s.onlyLoaded (s.load8 a).2 := rfl
theorem State.onlyLoaded_load16 (s : State) (a : Addr) : s.onlyLoaded (s.load16 a).2 :=
  (s.onlyLoaded_readHook a).trans (State.onlyLoaded_readHook ..)
theorem State.onlyLoaded_load32 (s : State) (a : Addr) : s.onlyLoaded (s.load32 a).2 := by
  simp only [State.load32]
  exact (s.onlyLoaded_load16 a).trans (State.onlyLoaded_load16 _ _)

theorem State.onlyStored_store8 (s : State) (a : Addr) (v : Byte) : s.onlyStored (s.store8 a v) := rfl
theorem State.onlyStored_store16 (s : State) (a : Addr) (v : Half) : s.onlyStored (s.store16 a v) := by
  unfold State.store16; exact (s.onlyStored_store8 a _).trans (State.onlyStored_store8 _ _ _)
theorem State.onlyStored_store32 (s : State) (a : Addr) (v : Long) : s.onlyStored (s.store32 a v) := by
  unfold State.store32; exact (s.onlyStored_store16 a _).trans (State.onlyStored_store16 _ _ _)

/-! The frames of the statements, step by step. -/

theorem State.sameButRead.trans {s m t : State} (h₁ : s.sameButRead m) (h₂ : m.sameButRead t) : s.sameButRead t := by
  unfold State.sameButRead at *
  calc t = { m with regs := t.regs, pc := t.pc, ccr := t.ccr, mem := t.mem, draws := t.draws } := h₂
    _ = _ := by rw [h₁]

theorem State.sameButWritten.trans {s m t : State} (h₁ : s.sameButWritten m) (h₂ : m.sameButWritten t) :
    s.sameButWritten t := by
  unfold State.sameButWritten at *
  calc t = { m with regs := t.regs, pc := t.pc, ccr := t.ccr, mem := t.mem, tb1Load := t.tb1Load, eep := t.eep,
                    acc := t.acc, lcd := t.lcd, draws := t.draws } := h₂
    _ = _ := by rw [h₁]

theorem State.sameButRead.written {s t : State} (h : s.sameButRead t) : s.sameButWritten t := by
  unfold State.sameButRead State.sameButWritten at *
  rw [h]

theorem State.onlyLoaded.read {s t : State} (h : s.onlyLoaded t) : s.sameButRead t := by
  unfold State.onlyLoaded State.sameButRead at *
  rw [h]

theorem State.onlyStored.written {s t : State} (h : s.onlyStored t) : s.sameButWritten t := by
  unfold State.onlyStored State.sameButWritten at *
  rw [h]

theorem State.sameButRead_setX (s : State) (i : Fin 8) (v : Long) : s.sameButRead (s.setX i v) := rfl
theorem State.sameButRead_setPc (s : State) (a : Addr) : s.sameButRead (s.setPc a) := rfl
theorem State.sameButRead_setFlags (s : State) (f : Ccr → Ccr) : s.sameButRead (s.setFlags f) := rfl
theorem State.sameButRead_set8 (s : State) (r : Sel) (v : Byte) : s.sameButRead (s.set8 r v) := rfl
theorem State.sameButRead_set16 (s : State) (r : Sel) (v : Half) : s.sameButRead (s.set16 r v) := rfl
theorem State.sameButRead_set32 (s : State) (r : ErSel) (v : Long) : s.sameButRead (s.set32 r v) := rfl
theorem State.sameButRead_drawBool (s : State) : s.sameButRead s.drawBool.2 := rfl
theorem State.sameButRead_drawByte (s : State) : s.sameButRead s.drawByte.2 := rfl

/-! ### Addresses in a run of bytes -/

theorem inRange_zero (a x : Addr) : ¬ inRange a 0 x := Nat.not_lt_zero _

theorem inRange_succ {n : Nat} (hn : n < 65536) (a x : Addr) : inRange a (n + 1) x ↔ x = a ∨ inRange (a + 1) n x := by
  unfold inRange
  constructor
  · intro h
    by_cases hx : x = a
    · exact .inl hx
    · right; bv_omega
  · rintro (rfl | h)
    · simp
    · bv_omega

theorem inRange_one (a x : Addr) : inRange a 1 x ↔ x = a := by
  rw [inRange_succ (by decide)]; simp [inRange_zero]

/-- The bytes of a run are those at its offsets. -/
theorem inRange_iff (a : Addr) (n : Nat) (hn : n ≤ 65536) (x : Addr) :
    inRange a n x ↔ ∃ k, k < n ∧ a + BitVec.ofNat 16 k = x := by
  unfold inRange
  constructor
  · intro h
    exact ⟨(x - a).toNat, h, by rw [BitVec.ofNat_toNat]; simp⟩
  · rintro ⟨k, hk, rfl⟩
    have : (a + BitVec.ofNat 16 k - a) = BitVec.ofNat 16 k := by bv_omega
    rw [this, BitVec.toNat_ofNat, Nat.mod_eq_of_lt (by omega)]; exact hk

/-! ### Bytes that an access leaves -/

theorem Image.put_of_ne (m : Image) {a x : Addr} (b : Byte) (h : x ≠ a) : m.put a b x = m x := if_neg h

theorem Image.clear_of_ne (m : Image) {f : BitLoc} {x : Addr} (h : x ≠ f.addr) : m.clear f x = m x := if_neg h

theorem Image.write_other (io : IoMap) (m : Image) (a : Addr) (b : Byte) {x : Addr} (hx : x ≠ a)
    (hc : ¬ clearedByWrite io a 1 x) : m.write io a b x = m x := by
  simp only [clearedByWrite, inRange_one, not_or, not_and] at hc
  obtain ⟨h₁, h₂⟩ := hc
  unfold Image.write
  split
  · rename_i hs
    have := h₂ hs.symm
    rw [Image.clear_of_ne _ this.2, Image.clear_of_ne _ this.1]
    split
    · rename_i hs'
      have := h₁ hs'.symm
      rw [Image.clear_of_ne _ this.2, Image.clear_of_ne _ this.1, Image.put_of_ne _ _ hx]
    · exact Image.put_of_ne _ _ hx
  · split
    · rename_i hs'
      have := h₁ hs'.symm
      rw [Image.clear_of_ne _ this.2, Image.clear_of_ne _ this.1, Image.put_of_ne _ _ hx]
    · exact Image.put_of_ne _ _ hx

theorem Image.read_other (io : IoMap) (m : Image) (a : Addr) {x : Addr} (hc : ¬ clearedByRead io a 1 x) :
    m.read io a x = m x := by
  simp only [clearedByRead, inRange_one, not_or, not_and] at hc
  obtain ⟨h₁, h₂⟩ := hc
  unfold Image.read
  split
  · rename_i hs
    rw [Image.clear_of_ne _ (h₂ hs.symm)]
    split
    · rename_i hs'; exact Image.clear_of_ne _ (h₁ hs'.symm)
    · rfl
  · split
    · rename_i hs'; exact Image.clear_of_ne _ (h₁ hs'.symm)
    · rfl

theorem clearedByWrite_succ {n : Nat} (hn : n < 65536) (io : IoMap) (a x : Addr) :
    clearedByWrite io a (n + 1) x ↔ clearedByWrite io a 1 x ∨ clearedByWrite io (a + 1) n x := by
  simp only [clearedByWrite, inRange_succ hn, inRange_one]; tauto

theorem clearedByRead_succ {n : Nat} (hn : n < 65536) (io : IoMap) (a x : Addr) :
    clearedByRead io a (n + 1) x ↔ clearedByRead io a 1 x ∨ clearedByRead io (a + 1) n x := by
  simp only [clearedByRead, inRange_succ hn, inRange_one]; tauto

/-- A run of writes leaves every byte that is not in it and holds no flag that its hooks clear. -/
theorem Image.writes_other (io : IoMap) (bs : List Byte) (m : Image) (a : Addr) (hn : bs.length < 65536) {x : Addr}
    (hx : ¬ inRange a bs.length x) (hc : ¬ clearedByWrite io a bs.length x) : Image.writes io m a bs x = m x := by
  induction bs generalizing m a with
  | nil => rfl
  | cons b bs ih =>
    simp only [List.length_cons] at hn hx hc
    rw [inRange_succ (by omega), not_or] at hx
    rw [clearedByWrite_succ (by omega), not_or] at hc
    rw [Image.writes, ih _ _ (by omega) hx.2 hc.2, Image.write_other _ _ _ _ hx.1 hc.1]

/-- A run of reads leaves every byte that holds no flag that its hooks clear. -/
theorem Image.reads_other (io : IoMap) (n : Nat) (m : Image) (a : Addr) (hn : n < 65536) {x : Addr}
    (hc : ¬ clearedByRead io a n x) : (Image.reads io m a n).2 x = m x := by
  induction n generalizing m a with
  | zero => rfl
  | succ n ih =>
    rw [clearedByRead_succ (by omega), not_or] at hc
    show (Image.reads io (m.read io a) (a + 1) n).2 x = m x
    rw [ih _ _ (by omega) hc.2, Image.read_other _ _ _ hc.1]

end Sys2Proof.Machine
end

