-- ==== Sys2Proof/Laws/Codec.lean ====
section
/-! SUPPORT. The fields of encodings: what the decoder reads out of a field is what the encoder put in. -/

namespace Sys2Proof

@[simp] theorem hiNib_nb (h l : BitVec 4) : hiNib (nb h l) = h := by revert h l; decide
@[simp] theorem loNib_nb (h l : BitVec 4) : loNib (nb h l) = l := by revert h l; decide
theorem nb_hiNib_loNib (b : Byte) : nb (hiNib b) (loNib b) = b := by revert b; decide

theorem nb_eq_iff (h l h' l' : BitVec 4) : nb h l = nb h' l' ↔ h = h' ∧ l = l' := by
  constructor
  · intro e
    exact ⟨by rw [← hiNib_nb h l, e, hiNib_nb], by rw [← loNib_nb h l, e, loNib_nb]⟩
  · rintro ⟨rfl, rfl⟩; rfl

theorem half_split (v : BitVec 16) : half (v.extractLsb' 8 8) (v.extractLsb' 0 8) = v := by
  apply BitVec.eq_of_getLsbD_eq; intro i hi
  unfold half
  rw [BitVec.getLsbD_append]
  interval_cases i <;> simp

theorem tri_split (v : BitVec 24) : tri (v.extractLsb' 16 8) (v.extractLsb' 8 8) (v.extractLsb' 0 8) = v := by
  apply BitVec.eq_of_getLsbD_eq; intro i hi
  unfold tri
  rw [BitVec.getLsbD_append, BitVec.getLsbD_append]
  interval_cases i <;> simp

theorem quad_split (v : BitVec 32) :
    quad (v.extractLsb' 24 8) (v.extractLsb' 16 8) (v.extractLsb' 8 8) (v.extractLsb' 0 8) = v := by
  apply BitVec.eq_of_getLsbD_eq; intro i hi
  unfold quad
  rw [BitVec.getLsbD_append, BitVec.getLsbD_append, BitVec.getLsbD_append]
  interval_cases i <;> simp

/-- The bits of two joined values. -/
theorem extract_append_low {n m : Nat} (a : BitVec n) (b : BitVec m) (k w : Nat) (h : k + w ≤ m) :
    (a ++ b).extractLsb' k w = b.extractLsb' k w := by
  apply BitVec.eq_of_getLsbD_eq; intro i hi
  rw [BitVec.getLsbD_extractLsb', BitVec.getLsbD_extractLsb', BitVec.getLsbD_append, if_pos (by omega)]

theorem extract_append_high {n m : Nat} (a : BitVec n) (b : BitVec m) (k w : Nat) (h : m ≤ k) :
    (a ++ b).extractLsb' k w = a.extractLsb' (k - m) w := by
  apply BitVec.eq_of_getLsbD_eq; intro i hi
  rw [BitVec.getLsbD_extractLsb', BitVec.getLsbD_extractLsb', BitVec.getLsbD_append, if_neg (by omega)]
  congr 2; omega

theorem extract_all (a : Byte) : a.extractLsb' 0 8 = a := by revert a; decide

theorem bytes16_half (a b : Byte) : bytes16 (half a b) = [a, b] := by
  unfold bytes16 half
  rw [extract_append_high _ _ 8 8 (by decide), extract_append_low _ _ 0 8 (by decide), extract_all b]
  exact congrArg (· :: _) (extract_all a)

theorem bytes24_tri (a b c : Byte) : bytes24 (tri a b c) = [a, b, c] := by
  unfold bytes24 tri
  rw [extract_append_high _ _ 16 8 (by decide), extract_append_high _ _ (16 - 8) 8 (by decide),
    extract_append_high _ _ 8 8 (by decide), extract_append_low _ _ (8 - 8) 8 (by decide),
    extract_append_low _ _ 0 8 (by decide), extract_all c]
  exact congrArg₂ (fun x y => [x, y, c]) (extract_all a) (extract_all b)

theorem bytes32_quad (a b c d : Byte) : bytes32 (quad a b c d) = [a, b, c, d] := by
  unfold bytes32 quad
  rw [extract_append_high _ _ 24 8 (by decide), extract_append_high _ _ (24 - 8) 8 (by decide),
    extract_append_high _ _ (24 - 8 - 8) 8 (by decide), extract_append_high _ _ 16 8 (by decide),
    extract_append_high _ _ (16 - 8) 8 (by decide), extract_append_low _ _ (16 - 8 - 8) 8 (by decide),
    extract_append_high _ _ 8 8 (by decide), extract_append_low _ _ (8 - 8) 8 (by decide),
    extract_append_low _ _ 0 8 (by decide), extract_all d]
  show [a.extractLsb' 0 8, b.extractLsb' 0 8, c.extractLsb' 0 8, d] = _
  rw [extract_all a, extract_all b, extract_all c]

/-- A register nibble with its top bit set, and back. -/
theorem erLow_er1 (r : ErSel) (h : erOk r = true) : erLow (er1 r) = r ∧ (er1 r).msb = true := by
  revert r; decide

theorem er1_erLow (n : BitVec 4) (h : n.msb = true) : er1 (erLow n) = n ∧ erOk (erLow n) = true := by
  revert n; decide

theorem msb_of_erOk (r : ErSel) : r.msb = !erOk r := by revert r; decide

/-- The `#xx:3` field of a nibble, and back. -/
theorem imm3_zero_append (v : BitVec 3) : imm3 (0#1 ++ v) = v ∧ (0#1 ++ v : BitVec 4).msb = false := by
  revert v; decide

theorem imm3_one_append (v : BitVec 3) : imm3 (1#1 ++ v) = v ∧ (1#1 ++ v : BitVec 4).msb = true := by
  revert v; decide

theorem zero_append_imm3 (n : BitVec 4) (h : n.msb = false) : 0#1 ++ imm3 n = n := by revert n; decide

theorem one_append_imm3 (n : BitVec 4) (h : n.msb = true) : 1#1 ++ imm3 n = n := by revert n; decide

end Sys2Proof
end

