-- ==== Sys2Proof/Laws/Layout.lean ====
section
/-! SUPPORT. What a valid layout gives: fields that share no bit do not disturb one another (`10_state.md` rule R141).
The fields are named by their places in `IoMap.otherPieces`. -/

namespace Sys2Proof.Machine

/-! ### From the check to pairs -/

theorem Piece.disjoint_of_all {l : List Piece} (h : Piece.allDisjoint l = true) {i j : Nat} (hij : i < j) {p q : Piece}
    (hp : l[i]? = some p) (hq : l[j]? = some q) : p.disjoint q = true := by
  induction l generalizing i j with
  | nil => simp at hp
  | cons x xs ih =>
    simp only [Piece.allDisjoint, Bool.and_eq_true, List.all_eq_true] at h
    cases j with
    | zero => omega
    | succ j =>
      rw [List.getElem?_cons_succ] at hq
      cases i with
      | zero =>
        rw [List.getElem?_cons_zero, Option.some.injEq] at hp
        subst hp
        exact h.1 q (List.mem_of_getElem? hq)
      | succ i =>
        rw [List.getElem?_cons_succ] at hp
        exact ih h.2 (by omega) hp hq

/-- Two fields of a valid layout, but for the RTC enables, share no bit. -/
theorem IoMap.disjoint_of_valid {m : IoMap} (h : m.valid = true) {i j : Nat} (hij : i < j) {p q : Piece}
    (hp : m.otherPieces[i]? = some p) (hq : m.otherPieces[j]? = some q) : p.disjoint q = true := by
  simp only [IoMap.valid, Bool.and_eq_true] at h
  exact Piece.disjoint_of_all h.1.1.1 hij hp hq

theorem Config.io_valid {c : Config} (h : c.valid = true) : c.io.valid = true := by
  simp only [Config.valid, Bool.and_eq_true] at h
  tauto

theorem Piece.disjoint_comm (p q : Piece) : p.disjoint q = q.disjoint p := by
  unfold Piece.disjoint
  rw [BitVec.and_comm]
  congr 1
  simp only [bne]
  rw [Bool.beq_comm]

/-! ### What disjoint fields do not disturb -/

/-- A byte register holds no bit of another field. -/
theorem addr_ne_of_disjoint {a : Addr} {f : BitLoc} (h : Piece.disjoint (a, 0xFF#8) f.piece = true) : a ≠ f.addr := by
  rintro rfl
  have hb : ∀ k : BitVec 3, Piece.disjoint (f.addr, 0xFF#8) (f.addr, 1#8 <<< k.toNat) = false := by
    intro k
    have : ∀ k : BitVec 3, (0xFF#8 &&& 1#8 <<< k.toNat == 0#8) = false := by decide
    simp [Piece.disjoint, this k]
  rw [BitLoc.piece, hb] at h
  exact absurd h (by decide)

/-- A byte register holds no bit of a multi-bit field. -/
theorem addr_ne_of_disjoint_field {a : Addr} {f : FieldLoc} (hf : f.lo.toNat ≤ f.hi.toNat)
    (h : f.piece.disjoint (a, 0xFF#8) = true) : f.addr ≠ a := by
  rintro rfl
  have hm : ∀ hi lo : BitVec 3, lo.toNat ≤ hi.toNat →
      (BitVec.ofNat 8 (2 ^ (hi.toNat + 1) - 2 ^ lo.toNat) &&& 0xFF#8 == 0#8) = false := by decide
  simp only [Piece.disjoint, FieldLoc.piece, bne_self_eq_false, Bool.false_or] at h
  rw [hm _ _ hf] at h
  exact absurd h (by decide)

/-- Two byte registers lie apart. -/
theorem addr_ne_of_disjoint_bytes {a b : Addr} (h : Piece.disjoint (a, 0xFF#8) (b, 0xFF#8) = true) : a ≠ b := by
  rintro rfl
  simp [Piece.disjoint] at h

/-- Two bits of one byte have two places. -/
theorem bit_ne_of_disjoint {f g : BitLoc} (h : f.piece.disjoint g.piece = true) (ha : f.addr = g.addr) : f.bit ≠ g.bit := by
  intro hb
  have hm : ∀ k : BitVec 3, (1#8 <<< k.toNat &&& 1#8 <<< k.toNat == 0#8) = false := by decide
  simp only [Piece.disjoint, BitLoc.piece, ha, hb, bne_self_eq_false, Bool.false_or] at h
  rw [hm] at h
  exact absurd h (by decide)

theorem getLsbD_putBit (b : Byte) (k j : BitVec 3) (v : Bool) :
    (putBit b k v).getLsbD j.toNat = if j = k then v else b.getLsbD j.toNat := by
  have hj : j.toNat < 8 := j.isLt
  have hm : (1#8 <<< k.toNat).getLsbD j.toNat = decide (j = k) := by
    revert j k; decide
  unfold putBit
  cases v
  · rw [if_neg Bool.false_ne_true, BitVec.getLsbD_and, BitVec.getLsbD_not, hm]
    by_cases h : j = k <;> simp only [h, hj, decide_true, decide_false, if_true, if_false, Bool.not_true, Bool.not_false,
      Bool.and_true, Bool.and_false]
  · rw [if_pos rfl, BitVec.getLsbD_or, hm]
    by_cases h : j = k <;> simp only [h, decide_true, decide_false, if_true, if_false, Bool.or_true, Bool.or_false]

/-- A bit made `v` reads as `v`. -/
theorem State.bit_setBit_self (s : State) (f : BitLoc) (v : Bool) : (s.setBit f v).bit f = v := by
  unfold State.bit
  rw [State.raw_setBit, if_pos rfl, getLsbD_putBit, if_pos rfl]

/-- A disjoint bit is as it was. -/
theorem State.bit_setBit_of_disjoint (s : State) {f g : BitLoc} (v : Bool) (h : f.piece.disjoint g.piece = true) :
    (s.setBit f v).bit g = s.bit g := by
  unfold State.bit
  rw [State.raw_setBit]
  split
  · rename_i ha
    rw [getLsbD_putBit, if_neg (Ne.symm (bit_ne_of_disjoint h ha.symm)), ha]
  · rfl

/-- A byte register written leaves a disjoint bit. -/
theorem State.bit_rawSet_of_ne (s : State) {a : Addr} {f : BitLoc} (b : Byte) (h : a ≠ f.addr) :
    (s.rawSet a b).bit f = s.bit f := by
  unfold State.bit
  rw [State.raw_rawSet, if_neg (Ne.symm h)]

/-- A state with the same bytes has the same bits. -/
theorem State.bit_congr {s t : State} (f : BitLoc) (h : t.raw f.addr = s.raw f.addr) : t.bit f = s.bit f := by
  unfold State.bit; rw [h]

/-- A state with the same byte has the same field. -/
theorem State.field_congr {s t : State} (f : FieldLoc) (h : t.raw f.addr = s.raw f.addr) : t.field f = s.field f := by
  unfold State.field; rw [h]

/-! ### What is kept of memory -/

theorem State.keepsBut.refl (s : State) (bytes : List Addr) (bits : List BitLoc) : s.keepsBut s bytes bits :=
  ⟨fun _ _ _ => rfl, fun _ _ _ => rfl⟩

theorem State.keepsBut.trans {s m t : State} {bytes : List Addr} {bits : List BitLoc} (h₁ : s.keepsBut m bytes bits)
    (h₂ : m.keepsBut t bytes bits) : s.keepsBut t bytes bits :=
  ⟨fun x hx hf => (h₂.1 x hx hf).trans (h₁.1 x hx hf), fun f hx hf => (h₂.2 f hx hf).trans (h₁.2 f hx hf)⟩

/-- A longer list of exceptions keeps less. -/
theorem State.keepsBut.mono {s t : State} {bytes bytes' : List Addr} {bits bits' : List BitLoc}
    (h : s.keepsBut t bytes bits) (hb : bytes ⊆ bytes') (hf : bits ⊆ bits') : s.keepsBut t bytes' bits' :=
  ⟨fun x hx hx' => h.1 x (fun hm => hx (hb hm)) (fun f hm => hx' f (hf hm)),
    fun f hx hx' => h.2 f (fun hm => hx (hb hm)) (fun hm => hx' (hf hm))⟩

/-- Only memory counts. -/
theorem State.keepsBut.congr {s t u : State} {bytes : List Addr} {bits : List BitLoc} (h : s.keepsBut t bytes bits)
    (hm : u.mem = t.mem) : s.keepsBut u bytes bits := by
  have hr : u.raw = t.raw := by funext x; unfold State.raw; rw [hm]
  have hb : ∀ f, u.bit f = t.bit f := fun f => State.bit_congr f (by rw [hr])
  exact ⟨fun x hx hf => (congrFun hr x).trans (h.1 x hx hf), fun f hx hf => (hb f).trans (h.2 f hx hf)⟩

/-- A bit written is an exception of its own. -/
theorem State.keepsBut_setBit (s : State) {f : BitLoc} (v : Bool) (bytes : List Addr) {bits : List BitLoc}
    (hf : f ∈ bits) : s.keepsBut (s.setBit f v) bytes bits := by
  refine ⟨fun x _ hx => ?_, fun g _ hg => ?_⟩
  · rw [State.raw_setBit, if_neg (hx f hf)]
  · unfold State.bit
    rw [State.raw_setBit]
    split
    · rename_i ha
      have hb : g.bit ≠ f.bit := fun hb => by
        have : g = f := by cases f; cases g; simp_all
        exact hg (this ▸ hf)
      rw [getLsbD_putBit, if_neg hb, ha]
    · rfl

/-- A byte written is an exception of its own. -/
theorem State.keepsBut_rawSet (s : State) {a : Addr} (b : Byte) {bytes : List Addr} (bits : List BitLoc)
    (ha : a ∈ bytes) : s.keepsBut (s.rawSet a b) bytes bits := by
  have h : ∀ x, x ∉ bytes → (s.rawSet a b).raw x = s.raw x := fun x hx => by
    rw [State.raw_rawSet, if_neg]
    rintro rfl
    exact hx ha
  exact ⟨fun x hx _ => h x hx, fun f hx _ => State.bit_congr f (h _ hx)⟩

/-! ### A write to a transmit register -/

/-- A firmware write to SSU_TDR stores the byte and clears the two flags, and touches nothing else (`60_exceptions.md`
rule R1231). -/
theorem State.store8_ssuTdr (s : State) (b : Byte) (h : s.cfg.valid = true) :
    s.store8 s.cfg.io.ssuTdr b
      = ((s.rawSet s.cfg.io.ssuTdr b).setBit s.cfg.io.ssuTdre false).setBit s.cfg.io.ssuTend false := by
  have hv := Config.io_valid h
  have hs : s.cfg.io.ssuTdr ≠ s.cfg.io.sciTdr :=
    addr_ne_of_disjoint_bytes (IoMap.disjoint_of_valid hv (i := 43) (j := 46) (by decide) rfl rfl)
  have ht : s.cfg.io.ssuTdr ≠ s.cfg.io.tb1Cnt :=
    Ne.symm (addr_ne_of_disjoint_bytes (IoMap.disjoint_of_valid hv (i := 38) (j := 43) (by decide) rfl rfl))
  have he : s.cfg.io.ssuTdr ≠ s.cfg.io.csEeprom.addr := addr_ne_of_disjoint
    ((Piece.disjoint_comm _ _).trans (IoMap.disjoint_of_valid hv (i := 25) (j := 43) (by decide) rfl rfl))
  have ha : s.cfg.io.ssuTdr ≠ s.cfg.io.csAccel.addr := addr_ne_of_disjoint
    ((Piece.disjoint_comm _ _).trans (IoMap.disjoint_of_valid hv (i := 26) (j := 43) (by decide) rfl rfl))
  have hl : s.cfg.io.ssuTdr ≠ s.cfg.io.csLcd.addr := addr_ne_of_disjoint
    ((Piece.disjoint_comm _ _).trans (IoMap.disjoint_of_valid hv (i := 27) (j := 43) (by decide) rfl rfl))
  unfold State.store8 State.writeHook State.setBit State.rawSet Memory.writeHook deselects
  simp [hs, ht, he, ha, hl]

end Sys2Proof.Machine
end

