-- ==== Sys2Proof/Laws/PerInstr.lean ====
section
/-! SUPPORT. What holds of every instruction as syntax, instruction by instruction. -/

namespace Sys2Proof.Laws.EncodeLength

/-- An instruction's encoding is an even number of bytes, 2 to 10 (`30_encoding.md` rule R303), and its row is one of the
table's 264. -/
def Statement (i : Instr) : Prop :=
  [2, 4, 6, 8, 10].contains i.length = true ∧ Nat.blt i.row 264 = true

theorem movBReg (rs : Sel) (rd : Sel) : Statement (.movBReg rs rd) := ⟨rfl, rfl⟩
theorem movWReg (rs : Sel) (rd : Sel) : Statement (.movWReg rs rd) := ⟨rfl, rfl⟩
theorem movLReg (rs : ErSel) (rd : ErSel) : Statement (.movLReg rs rd) := ⟨rfl, rfl⟩
theorem movBImm (imm : BitVec 8) (rd : Sel) : Statement (.movBImm imm rd) := ⟨rfl, rfl⟩
theorem movWImm (imm : BitVec 16) (rd : Sel) : Statement (.movWImm imm rd) := ⟨rfl, rfl⟩
theorem movLImm (imm : BitVec 32) (rd : ErSel) : Statement (.movLImm imm rd) := ⟨rfl, rfl⟩
theorem movBInd (rs : ErSel) (rd : Sel) : Statement (.movBInd rs rd) := ⟨rfl, rfl⟩
theorem movWInd (rs : ErSel) (rd : Sel) : Statement (.movWInd rs rd) := ⟨rfl, rfl⟩
theorem movLInd (rs : ErSel) (rd : ErSel) : Statement (.movLInd rs rd) := ⟨rfl, rfl⟩
theorem movBToInd (rs : Sel) (rd : ErSel) : Statement (.movBToInd rs rd) := ⟨rfl, rfl⟩
theorem movWToInd (rs : Sel) (rd : ErSel) : Statement (.movWToInd rs rd) := ⟨rfl, rfl⟩
theorem movLToInd (rs : ErSel) (rd : ErSel) : Statement (.movLToInd rs rd) := ⟨rfl, rfl⟩
theorem movBDisp16 (disp : BitVec 16) (rs : ErSel) (rd : Sel) : Statement (.movBDisp16 disp rs rd) := ⟨rfl, rfl⟩
theorem movWDisp16 (disp : BitVec 16) (rs : ErSel) (rd : Sel) : Statement (.movWDisp16 disp rs rd) := ⟨rfl, rfl⟩
theorem movLDisp16 (disp : BitVec 16) (rs : ErSel) (rd : ErSel) : Statement (.movLDisp16 disp rs rd) := ⟨rfl, rfl⟩
theorem movBToDisp16 (rs : Sel) (disp : BitVec 16) (rd : ErSel) : Statement (.movBToDisp16 rs disp rd) := ⟨rfl, rfl⟩
theorem movWToDisp16 (rs : Sel) (disp : BitVec 16) (rd : ErSel) : Statement (.movWToDisp16 rs disp rd) := ⟨rfl, rfl⟩
theorem movLToDisp16 (rs : ErSel) (disp : BitVec 16) (rd : ErSel) : Statement (.movLToDisp16 rs disp rd) := ⟨rfl, rfl⟩
theorem movBDisp24 (disp : BitVec 24) (rs : ErSel) (rd : Sel) : Statement (.movBDisp24 disp rs rd) := ⟨rfl, rfl⟩
theorem movWDisp24 (disp : BitVec 24) (rs : ErSel) (rd : Sel) : Statement (.movWDisp24 disp rs rd) := ⟨rfl, rfl⟩
theorem movLDisp24 (disp : BitVec 24) (rs : ErSel) (rd : ErSel) : Statement (.movLDisp24 disp rs rd) := ⟨rfl, rfl⟩
theorem movBToDisp24 (rs : Sel) (disp : BitVec 24) (rd : ErSel) : Statement (.movBToDisp24 rs disp rd) := ⟨rfl, rfl⟩
theorem movWToDisp24 (rs : Sel) (disp : BitVec 24) (rd : ErSel) : Statement (.movWToDisp24 rs disp rd) := ⟨rfl, rfl⟩
theorem movLToDisp24 (rs : ErSel) (disp : BitVec 24) (rd : ErSel) : Statement (.movLToDisp24 rs disp rd) := ⟨rfl, rfl⟩
theorem movBPostInc (rs : ErSel) (rd : Sel) : Statement (.movBPostInc rs rd) := ⟨rfl, rfl⟩
theorem movWPostInc (rs : ErSel) (rd : Sel) : Statement (.movWPostInc rs rd) := ⟨rfl, rfl⟩
theorem movLPostInc (rs : ErSel) (rd : ErSel) : Statement (.movLPostInc rs rd) := ⟨rfl, rfl⟩
theorem movBToPreDec (rs : Sel) (rd : ErSel) : Statement (.movBToPreDec rs rd) := ⟨rfl, rfl⟩
theorem movWToPreDec (rs : Sel) (rd : ErSel) : Statement (.movWToPreDec rs rd) := ⟨rfl, rfl⟩
theorem movLToPreDec (rs : ErSel) (rd : ErSel) : Statement (.movLToPreDec rs rd) := ⟨rfl, rfl⟩
theorem movBAbs8 (abs : BitVec 8) (rd : Sel) : Statement (.movBAbs8 abs rd) := ⟨rfl, rfl⟩
theorem movBAbs16 (abs : BitVec 16) (rd : Sel) : Statement (.movBAbs16 abs rd) := ⟨rfl, rfl⟩
theorem movBAbs24 (abs : BitVec 24) (rd : Sel) : Statement (.movBAbs24 abs rd) := ⟨rfl, rfl⟩
theorem movWAbs16 (abs : BitVec 16) (rd : Sel) : Statement (.movWAbs16 abs rd) := ⟨rfl, rfl⟩
theorem movWAbs24 (abs : BitVec 24) (rd : Sel) : Statement (.movWAbs24 abs rd) := ⟨rfl, rfl⟩
theorem movLAbs16 (abs : BitVec 16) (rd : ErSel) : Statement (.movLAbs16 abs rd) := ⟨rfl, rfl⟩
theorem movLAbs24 (abs : BitVec 24) (rd : ErSel) : Statement (.movLAbs24 abs rd) := ⟨rfl, rfl⟩
theorem movBToAbs8 (rs : Sel) (abs : BitVec 8) : Statement (.movBToAbs8 rs abs) := ⟨rfl, rfl⟩
theorem movBToAbs16 (rs : Sel) (abs : BitVec 16) : Statement (.movBToAbs16 rs abs) := ⟨rfl, rfl⟩
theorem movBToAbs24 (rs : Sel) (abs : BitVec 24) : Statement (.movBToAbs24 rs abs) := ⟨rfl, rfl⟩
theorem movWToAbs16 (rs : Sel) (abs : BitVec 16) : Statement (.movWToAbs16 rs abs) := ⟨rfl, rfl⟩
theorem movWToAbs24 (rs : Sel) (abs : BitVec 24) : Statement (.movWToAbs24 rs abs) := ⟨rfl, rfl⟩
theorem movLToAbs16 (rs : ErSel) (abs : BitVec 16) : Statement (.movLToAbs16 rs abs) := ⟨rfl, rfl⟩
theorem movLToAbs24 (rs : ErSel) (abs : BitVec 24) : Statement (.movLToAbs24 rs abs) := ⟨rfl, rfl⟩
theorem eepmovB : Statement .eepmovB := ⟨rfl, rfl⟩
theorem eepmovW : Statement .eepmovW := ⟨rfl, rfl⟩
theorem movfpe (abs : BitVec 16) (rd : Sel) : Statement (.movfpe abs rd) := ⟨rfl, rfl⟩
theorem movtpe (rs : Sel) (abs : BitVec 16) : Statement (.movtpe rs abs) := ⟨rfl, rfl⟩
theorem addBImm (imm : BitVec 8) (rd : Sel) : Statement (.addBImm imm rd) := ⟨rfl, rfl⟩
theorem addBReg (rs : Sel) (rd : Sel) : Statement (.addBReg rs rd) := ⟨rfl, rfl⟩
theorem addWImm (imm : BitVec 16) (rd : Sel) : Statement (.addWImm imm rd) := ⟨rfl, rfl⟩
theorem addWReg (rs : Sel) (rd : Sel) : Statement (.addWReg rs rd) := ⟨rfl, rfl⟩
theorem addLImm (imm : BitVec 32) (rd : ErSel) : Statement (.addLImm imm rd) := ⟨rfl, rfl⟩
theorem addLReg (rs : ErSel) (rd : ErSel) : Statement (.addLReg rs rd) := ⟨rfl, rfl⟩
theorem addxImm (imm : BitVec 8) (rd : Sel) : Statement (.addxImm imm rd) := ⟨rfl, rfl⟩
theorem addxReg (rs : Sel) (rd : Sel) : Statement (.addxReg rs rd) := ⟨rfl, rfl⟩
theorem adds1 (rd : ErSel) : Statement (.adds1 rd) := ⟨rfl, rfl⟩
theorem adds2 (rd : ErSel) : Statement (.adds2 rd) := ⟨rfl, rfl⟩
theorem adds4 (rd : ErSel) : Statement (.adds4 rd) := ⟨rfl, rfl⟩
theorem incB (rd : Sel) : Statement (.incB rd) := ⟨rfl, rfl⟩
theorem incW1 (rd : Sel) : Statement (.incW1 rd) := ⟨rfl, rfl⟩
theorem incW2 (rd : Sel) : Statement (.incW2 rd) := ⟨rfl, rfl⟩
theorem incL1 (rd : ErSel) : Statement (.incL1 rd) := ⟨rfl, rfl⟩
theorem incL2 (rd : ErSel) : Statement (.incL2 rd) := ⟨rfl, rfl⟩
theorem daa (rd : Sel) : Statement (.daa rd) := ⟨rfl, rfl⟩
theorem subBReg (rs : Sel) (rd : Sel) : Statement (.subBReg rs rd) := ⟨rfl, rfl⟩
theorem subWImm (imm : BitVec 16) (rd : Sel) : Statement (.subWImm imm rd) := ⟨rfl, rfl⟩
theorem subWReg (rs : Sel) (rd : Sel) : Statement (.subWReg rs rd) := ⟨rfl, rfl⟩
theorem subLImm (imm : BitVec 32) (rd : ErSel) : Statement (.subLImm imm rd) := ⟨rfl, rfl⟩
theorem subLReg (rs : ErSel) (rd : ErSel) : Statement (.subLReg rs rd) := ⟨rfl, rfl⟩
theorem subxImm (imm : BitVec 8) (rd : Sel) : Statement (.subxImm imm rd) := ⟨rfl, rfl⟩
theorem subxReg (rs : Sel) (rd : Sel) : Statement (.subxReg rs rd) := ⟨rfl, rfl⟩
theorem subs1 (rd : ErSel) : Statement (.subs1 rd) := ⟨rfl, rfl⟩
theorem subs2 (rd : ErSel) : Statement (.subs2 rd) := ⟨rfl, rfl⟩
theorem subs4 (rd : ErSel) : Statement (.subs4 rd) := ⟨rfl, rfl⟩
theorem decB (rd : Sel) : Statement (.decB rd) := ⟨rfl, rfl⟩
theorem decW1 (rd : Sel) : Statement (.decW1 rd) := ⟨rfl, rfl⟩
theorem decW2 (rd : Sel) : Statement (.decW2 rd) := ⟨rfl, rfl⟩
theorem decL1 (rd : ErSel) : Statement (.decL1 rd) := ⟨rfl, rfl⟩
theorem decL2 (rd : ErSel) : Statement (.decL2 rd) := ⟨rfl, rfl⟩
theorem das (rd : Sel) : Statement (.das rd) := ⟨rfl, rfl⟩
theorem negB (rd : Sel) : Statement (.negB rd) := ⟨rfl, rfl⟩
theorem negW (rd : Sel) : Statement (.negW rd) := ⟨rfl, rfl⟩
theorem negL (rd : ErSel) : Statement (.negL rd) := ⟨rfl, rfl⟩
theorem cmpBImm (imm : BitVec 8) (rd : Sel) : Statement (.cmpBImm imm rd) := ⟨rfl, rfl⟩
theorem cmpBReg (rs : Sel) (rd : Sel) : Statement (.cmpBReg rs rd) := ⟨rfl, rfl⟩
theorem cmpWImm (imm : BitVec 16) (rd : Sel) : Statement (.cmpWImm imm rd) := ⟨rfl, rfl⟩
theorem cmpWReg (rs : Sel) (rd : Sel) : Statement (.cmpWReg rs rd) := ⟨rfl, rfl⟩
theorem cmpLImm (imm : BitVec 32) (rd : ErSel) : Statement (.cmpLImm imm rd) := ⟨rfl, rfl⟩
theorem cmpLReg (rs : ErSel) (rd : ErSel) : Statement (.cmpLReg rs rd) := ⟨rfl, rfl⟩
theorem mulxuB (rs : Sel) (rd : Sel) : Statement (.mulxuB rs rd) := ⟨rfl, rfl⟩
theorem mulxuW (rs : Sel) (rd : ErSel) : Statement (.mulxuW rs rd) := ⟨rfl, rfl⟩
theorem mulxsB (rs : Sel) (rd : Sel) : Statement (.mulxsB rs rd) := ⟨rfl, rfl⟩
theorem mulxsW (rs : Sel) (rd : ErSel) : Statement (.mulxsW rs rd) := ⟨rfl, rfl⟩
theorem divxuB (rs : Sel) (rd : Sel) : Statement (.divxuB rs rd) := ⟨rfl, rfl⟩
theorem divxuW (rs : Sel) (rd : ErSel) : Statement (.divxuW rs rd) := ⟨rfl, rfl⟩
theorem divxsB (rs : Sel) (rd : Sel) : Statement (.divxsB rs rd) := ⟨rfl, rfl⟩
theorem divxsW (rs : Sel) (rd : ErSel) : Statement (.divxsW rs rd) := ⟨rfl, rfl⟩
theorem extuW (rd : Sel) : Statement (.extuW rd) := ⟨rfl, rfl⟩
theorem extuL (rd : ErSel) : Statement (.extuL rd) := ⟨rfl, rfl⟩
theorem extsW (rd : Sel) : Statement (.extsW rd) := ⟨rfl, rfl⟩
theorem extsL (rd : ErSel) : Statement (.extsL rd) := ⟨rfl, rfl⟩
theorem andBImm (imm : BitVec 8) (rd : Sel) : Statement (.andBImm imm rd) := ⟨rfl, rfl⟩
theorem andBReg (rs : Sel) (rd : Sel) : Statement (.andBReg rs rd) := ⟨rfl, rfl⟩
theorem andWImm (imm : BitVec 16) (rd : Sel) : Statement (.andWImm imm rd) := ⟨rfl, rfl⟩
theorem andWReg (rs : Sel) (rd : Sel) : Statement (.andWReg rs rd) := ⟨rfl, rfl⟩
theorem andLImm (imm : BitVec 32) (rd : ErSel) : Statement (.andLImm imm rd) := ⟨rfl, rfl⟩
theorem andLReg (rs : ErSel) (rd : ErSel) : Statement (.andLReg rs rd) := ⟨rfl, rfl⟩
theorem orBImm (imm : BitVec 8) (rd : Sel) : Statement (.orBImm imm rd) := ⟨rfl, rfl⟩
theorem orBReg (rs : Sel) (rd : Sel) : Statement (.orBReg rs rd) := ⟨rfl, rfl⟩
theorem orWImm (imm : BitVec 16) (rd : Sel) : Statement (.orWImm imm rd) := ⟨rfl, rfl⟩
theorem orWReg (rs : Sel) (rd : Sel) : Statement (.orWReg rs rd) := ⟨rfl, rfl⟩
theorem orLImm (imm : BitVec 32) (rd : ErSel) : Statement (.orLImm imm rd) := ⟨rfl, rfl⟩
theorem orLReg (rs : ErSel) (rd : ErSel) : Statement (.orLReg rs rd) := ⟨rfl, rfl⟩
theorem xorBImm (imm : BitVec 8) (rd : Sel) : Statement (.xorBImm imm rd) := ⟨rfl, rfl⟩
theorem xorBReg (rs : Sel) (rd : Sel) : Statement (.xorBReg rs rd) := ⟨rfl, rfl⟩
theorem xorWImm (imm : BitVec 16) (rd : Sel) : Statement (.xorWImm imm rd) := ⟨rfl, rfl⟩
theorem xorWReg (rs : Sel) (rd : Sel) : Statement (.xorWReg rs rd) := ⟨rfl, rfl⟩
theorem xorLImm (imm : BitVec 32) (rd : ErSel) : Statement (.xorLImm imm rd) := ⟨rfl, rfl⟩
theorem xorLReg (rs : ErSel) (rd : ErSel) : Statement (.xorLReg rs rd) := ⟨rfl, rfl⟩
theorem notB (rd : Sel) : Statement (.notB rd) := ⟨rfl, rfl⟩
theorem notW (rd : Sel) : Statement (.notW rd) := ⟨rfl, rfl⟩
theorem notL (rd : ErSel) : Statement (.notL rd) := ⟨rfl, rfl⟩
theorem shalB (rd : Sel) : Statement (.shalB rd) := ⟨rfl, rfl⟩
theorem shalW (rd : Sel) : Statement (.shalW rd) := ⟨rfl, rfl⟩
theorem shalL (rd : ErSel) : Statement (.shalL rd) := ⟨rfl, rfl⟩
theorem sharB (rd : Sel) : Statement (.sharB rd) := ⟨rfl, rfl⟩
theorem sharW (rd : Sel) : Statement (.sharW rd) := ⟨rfl, rfl⟩
theorem sharL (rd : ErSel) : Statement (.sharL rd) := ⟨rfl, rfl⟩
theorem shllB (rd : Sel) : Statement (.shllB rd) := ⟨rfl, rfl⟩
theorem shllW (rd : Sel) : Statement (.shllW rd) := ⟨rfl, rfl⟩
theorem shllL (rd : ErSel) : Statement (.shllL rd) := ⟨rfl, rfl⟩
theorem shlrB (rd : Sel) : Statement (.shlrB rd) := ⟨rfl, rfl⟩
theorem shlrW (rd : Sel) : Statement (.shlrW rd) := ⟨rfl, rfl⟩
theorem shlrL (rd : ErSel) : Statement (.shlrL rd) := ⟨rfl, rfl⟩
theorem rotlB (rd : Sel) : Statement (.rotlB rd) := ⟨rfl, rfl⟩
theorem rotlW (rd : Sel) : Statement (.rotlW rd) := ⟨rfl, rfl⟩
theorem rotlL (rd : ErSel) : Statement (.rotlL rd) := ⟨rfl, rfl⟩
theorem rotrB (rd : Sel) : Statement (.rotrB rd) := ⟨rfl, rfl⟩
theorem rotrW (rd : Sel) : Statement (.rotrW rd) := ⟨rfl, rfl⟩
theorem rotrL (rd : ErSel) : Statement (.rotrL rd) := ⟨rfl, rfl⟩
theorem rotxlB (rd : Sel) : Statement (.rotxlB rd) := ⟨rfl, rfl⟩
theorem rotxlW (rd : Sel) : Statement (.rotxlW rd) := ⟨rfl, rfl⟩
theorem rotxlL (rd : ErSel) : Statement (.rotxlL rd) := ⟨rfl, rfl⟩
theorem rotxrB (rd : Sel) : Statement (.rotxrB rd) := ⟨rfl, rfl⟩
theorem rotxrW (rd : Sel) : Statement (.rotxrW rd) := ⟨rfl, rfl⟩
theorem rotxrL (rd : ErSel) : Statement (.rotxrL rd) := ⟨rfl, rfl⟩
theorem bsetImmReg (imm : BitVec 3) (rd : Sel) : Statement (.bsetImmReg imm rd) := ⟨rfl, rfl⟩
theorem bsetRegReg (rn : Sel) (rd : Sel) : Statement (.bsetRegReg rn rd) := ⟨rfl, rfl⟩
theorem bsetImmInd (imm : BitVec 3) (rd : ErSel) : Statement (.bsetImmInd imm rd) := ⟨rfl, rfl⟩
theorem bsetRegInd (rn : Sel) (rd : ErSel) : Statement (.bsetRegInd rn rd) := ⟨rfl, rfl⟩
theorem bsetImmAbs8 (imm : BitVec 3) (abs : BitVec 8) : Statement (.bsetImmAbs8 imm abs) := ⟨rfl, rfl⟩
theorem bsetRegAbs8 (rn : Sel) (abs : BitVec 8) : Statement (.bsetRegAbs8 rn abs) := ⟨rfl, rfl⟩
theorem bnotImmReg (imm : BitVec 3) (rd : Sel) : Statement (.bnotImmReg imm rd) := ⟨rfl, rfl⟩
theorem bnotRegReg (rn : Sel) (rd : Sel) : Statement (.bnotRegReg rn rd) := ⟨rfl, rfl⟩
theorem bnotImmInd (imm : BitVec 3) (rd : ErSel) : Statement (.bnotImmInd imm rd) := ⟨rfl, rfl⟩
theorem bnotRegInd (rn : Sel) (rd : ErSel) : Statement (.bnotRegInd rn rd) := ⟨rfl, rfl⟩
theorem bnotImmAbs8 (imm : BitVec 3) (abs : BitVec 8) : Statement (.bnotImmAbs8 imm abs) := ⟨rfl, rfl⟩
theorem bnotRegAbs8 (rn : Sel) (abs : BitVec 8) : Statement (.bnotRegAbs8 rn abs) := ⟨rfl, rfl⟩
theorem bclrImmReg (imm : BitVec 3) (rd : Sel) : Statement (.bclrImmReg imm rd) := ⟨rfl, rfl⟩
theorem bclrRegReg (rn : Sel) (rd : Sel) : Statement (.bclrRegReg rn rd) := ⟨rfl, rfl⟩
theorem bclrImmInd (imm : BitVec 3) (rd : ErSel) : Statement (.bclrImmInd imm rd) := ⟨rfl, rfl⟩
theorem bclrRegInd (rn : Sel) (rd : ErSel) : Statement (.bclrRegInd rn rd) := ⟨rfl, rfl⟩
theorem bclrImmAbs8 (imm : BitVec 3) (abs : BitVec 8) : Statement (.bclrImmAbs8 imm abs) := ⟨rfl, rfl⟩
theorem bclrRegAbs8 (rn : Sel) (abs : BitVec 8) : Statement (.bclrRegAbs8 rn abs) := ⟨rfl, rfl⟩
theorem btstImmReg (imm : BitVec 3) (rd : Sel) : Statement (.btstImmReg imm rd) := ⟨rfl, rfl⟩
theorem btstRegReg (rn : Sel) (rd : Sel) : Statement (.btstRegReg rn rd) := ⟨rfl, rfl⟩
theorem btstImmInd (imm : BitVec 3) (rd : ErSel) : Statement (.btstImmInd imm rd) := ⟨rfl, rfl⟩
theorem btstRegInd (rn : Sel) (rd : ErSel) : Statement (.btstRegInd rn rd) := ⟨rfl, rfl⟩
theorem btstImmAbs8 (imm : BitVec 3) (abs : BitVec 8) : Statement (.btstImmAbs8 imm abs) := ⟨rfl, rfl⟩
theorem btstRegAbs8 (rn : Sel) (abs : BitVec 8) : Statement (.btstRegAbs8 rn abs) := ⟨rfl, rfl⟩
theorem bldReg (imm : BitVec 3) (rd : Sel) : Statement (.bldReg imm rd) := ⟨rfl, rfl⟩
theorem bldInd (imm : BitVec 3) (rd : ErSel) : Statement (.bldInd imm rd) := ⟨rfl, rfl⟩
theorem bldAbs8 (imm : BitVec 3) (abs : BitVec 8) : Statement (.bldAbs8 imm abs) := ⟨rfl, rfl⟩
theorem bildReg (imm : BitVec 3) (rd : Sel) : Statement (.bildReg imm rd) := ⟨rfl, rfl⟩
theorem bildInd (imm : BitVec 3) (rd : ErSel) : Statement (.bildInd imm rd) := ⟨rfl, rfl⟩
theorem bildAbs8 (imm : BitVec 3) (abs : BitVec 8) : Statement (.bildAbs8 imm abs) := ⟨rfl, rfl⟩
theorem bstReg (imm : BitVec 3) (rd : Sel) : Statement (.bstReg imm rd) := ⟨rfl, rfl⟩
theorem bstInd (imm : BitVec 3) (rd : ErSel) : Statement (.bstInd imm rd) := ⟨rfl, rfl⟩
theorem bstAbs8 (imm : BitVec 3) (abs : BitVec 8) : Statement (.bstAbs8 imm abs) := ⟨rfl, rfl⟩
theorem bistReg (imm : BitVec 3) (rd : Sel) : Statement (.bistReg imm rd) := ⟨rfl, rfl⟩
theorem bistInd (imm : BitVec 3) (rd : ErSel) : Statement (.bistInd imm rd) := ⟨rfl, rfl⟩
theorem bistAbs8 (imm : BitVec 3) (abs : BitVec 8) : Statement (.bistAbs8 imm abs) := ⟨rfl, rfl⟩
theorem bandReg (imm : BitVec 3) (rd : Sel) : Statement (.bandReg imm rd) := ⟨rfl, rfl⟩
theorem bandInd (imm : BitVec 3) (rd : ErSel) : Statement (.bandInd imm rd) := ⟨rfl, rfl⟩
theorem bandAbs8 (imm : BitVec 3) (abs : BitVec 8) : Statement (.bandAbs8 imm abs) := ⟨rfl, rfl⟩
theorem biandReg (imm : BitVec 3) (rd : Sel) : Statement (.biandReg imm rd) := ⟨rfl, rfl⟩
theorem biandInd (imm : BitVec 3) (rd : ErSel) : Statement (.biandInd imm rd) := ⟨rfl, rfl⟩
theorem biandAbs8 (imm : BitVec 3) (abs : BitVec 8) : Statement (.biandAbs8 imm abs) := ⟨rfl, rfl⟩
theorem borReg (imm : BitVec 3) (rd : Sel) : Statement (.borReg imm rd) := ⟨rfl, rfl⟩
theorem borInd (imm : BitVec 3) (rd : ErSel) : Statement (.borInd imm rd) := ⟨rfl, rfl⟩
theorem borAbs8 (imm : BitVec 3) (abs : BitVec 8) : Statement (.borAbs8 imm abs) := ⟨rfl, rfl⟩
theorem biorReg (imm : BitVec 3) (rd : Sel) : Statement (.biorReg imm rd) := ⟨rfl, rfl⟩
theorem biorInd (imm : BitVec 3) (rd : ErSel) : Statement (.biorInd imm rd) := ⟨rfl, rfl⟩
theorem biorAbs8 (imm : BitVec 3) (abs : BitVec 8) : Statement (.biorAbs8 imm abs) := ⟨rfl, rfl⟩
theorem bxorReg (imm : BitVec 3) (rd : Sel) : Statement (.bxorReg imm rd) := ⟨rfl, rfl⟩
theorem bxorInd (imm : BitVec 3) (rd : ErSel) : Statement (.bxorInd imm rd) := ⟨rfl, rfl⟩
theorem bxorAbs8 (imm : BitVec 3) (abs : BitVec 8) : Statement (.bxorAbs8 imm abs) := ⟨rfl, rfl⟩
theorem bixorReg (imm : BitVec 3) (rd : Sel) : Statement (.bixorReg imm rd) := ⟨rfl, rfl⟩
theorem bixorInd (imm : BitVec 3) (rd : ErSel) : Statement (.bixorInd imm rd) := ⟨rfl, rfl⟩
theorem bixorAbs8 (imm : BitVec 3) (abs : BitVec 8) : Statement (.bixorAbs8 imm abs) := ⟨rfl, rfl⟩
theorem bra (disp : BranchDisp) : Statement (.bra disp) := by
  cases disp <;> exact ⟨rfl, rfl⟩
theorem brn (disp : BranchDisp) : Statement (.brn disp) := by
  cases disp <;> exact ⟨rfl, rfl⟩
theorem bhi (disp : BranchDisp) : Statement (.bhi disp) := by
  cases disp <;> exact ⟨rfl, rfl⟩
theorem bls (disp : BranchDisp) : Statement (.bls disp) := by
  cases disp <;> exact ⟨rfl, rfl⟩
theorem bcc (disp : BranchDisp) : Statement (.bcc disp) := by
  cases disp <;> exact ⟨rfl, rfl⟩
theorem bcs (disp : BranchDisp) : Statement (.bcs disp) := by
  cases disp <;> exact ⟨rfl, rfl⟩
theorem bne (disp : BranchDisp) : Statement (.bne disp) := by
  cases disp <;> exact ⟨rfl, rfl⟩
theorem beq (disp : BranchDisp) : Statement (.beq disp) := by
  cases disp <;> exact ⟨rfl, rfl⟩
theorem bvc (disp : BranchDisp) : Statement (.bvc disp) := by
  cases disp <;> exact ⟨rfl, rfl⟩
theorem bvs (disp : BranchDisp) : Statement (.bvs disp) := by
  cases disp <;> exact ⟨rfl, rfl⟩
theorem bpl (disp : BranchDisp) : Statement (.bpl disp) := by
  cases disp <;> exact ⟨rfl, rfl⟩
theorem bmi (disp : BranchDisp) : Statement (.bmi disp) := by
  cases disp <;> exact ⟨rfl, rfl⟩
theorem bge (disp : BranchDisp) : Statement (.bge disp) := by
  cases disp <;> exact ⟨rfl, rfl⟩
theorem blt (disp : BranchDisp) : Statement (.blt disp) := by
  cases disp <;> exact ⟨rfl, rfl⟩
theorem bgt (disp : BranchDisp) : Statement (.bgt disp) := by
  cases disp <;> exact ⟨rfl, rfl⟩
theorem ble (disp : BranchDisp) : Statement (.ble disp) := by
  cases disp <;> exact ⟨rfl, rfl⟩
theorem jmpInd (rn : ErSel) : Statement (.jmpInd rn) := ⟨rfl, rfl⟩
theorem jmpAbs24 (abs : BitVec 24) : Statement (.jmpAbs24 abs) := ⟨rfl, rfl⟩
theorem jmpMemInd (abs : BitVec 8) : Statement (.jmpMemInd abs) := ⟨rfl, rfl⟩
theorem bsr (disp : BranchDisp) : Statement (.bsr disp) := by
  cases disp <;> exact ⟨rfl, rfl⟩
theorem jsrInd (rn : ErSel) : Statement (.jsrInd rn) := ⟨rfl, rfl⟩
theorem jsrAbs24 (abs : BitVec 24) : Statement (.jsrAbs24 abs) := ⟨rfl, rfl⟩
theorem jsrMemInd (abs : BitVec 8) : Statement (.jsrMemInd abs) := ⟨rfl, rfl⟩
theorem rts : Statement .rts := ⟨rfl, rfl⟩
theorem ldcBImm (imm : BitVec 8) : Statement (.ldcBImm imm) := ⟨rfl, rfl⟩
theorem ldcBReg (rs : Sel) : Statement (.ldcBReg rs) := ⟨rfl, rfl⟩
theorem ldcWInd (rs : ErSel) : Statement (.ldcWInd rs) := ⟨rfl, rfl⟩
theorem ldcWDisp16 (disp : BitVec 16) (rs : ErSel) : Statement (.ldcWDisp16 disp rs) := ⟨rfl, rfl⟩
theorem ldcWDisp24 (disp : BitVec 24) (rs : ErSel) : Statement (.ldcWDisp24 disp rs) := ⟨rfl, rfl⟩
theorem ldcWPostInc (rs : ErSel) : Statement (.ldcWPostInc rs) := ⟨rfl, rfl⟩
theorem ldcWAbs16 (abs : BitVec 16) : Statement (.ldcWAbs16 abs) := ⟨rfl, rfl⟩
theorem ldcWAbs24 (abs : BitVec 24) : Statement (.ldcWAbs24 abs) := ⟨rfl, rfl⟩
theorem stcBReg (rd : Sel) : Statement (.stcBReg rd) := ⟨rfl, rfl⟩
theorem stcWToInd (rd : ErSel) : Statement (.stcWToInd rd) := ⟨rfl, rfl⟩
theorem stcWToDisp16 (disp : BitVec 16) (rd : ErSel) : Statement (.stcWToDisp16 disp rd) := ⟨rfl, rfl⟩
theorem stcWToDisp24 (disp : BitVec 24) (rd : ErSel) : Statement (.stcWToDisp24 disp rd) := ⟨rfl, rfl⟩
theorem stcWToPreDec (rd : ErSel) : Statement (.stcWToPreDec rd) := ⟨rfl, rfl⟩
theorem stcWToAbs16 (abs : BitVec 16) : Statement (.stcWToAbs16 abs) := ⟨rfl, rfl⟩
theorem stcWToAbs24 (abs : BitVec 24) : Statement (.stcWToAbs24 abs) := ⟨rfl, rfl⟩
theorem andc (imm : BitVec 8) : Statement (.andc imm) := ⟨rfl, rfl⟩
theorem orc (imm : BitVec 8) : Statement (.orc imm) := ⟨rfl, rfl⟩
theorem xorc (imm : BitVec 8) : Statement (.xorc imm) := ⟨rfl, rfl⟩
theorem trapa (imm : BitVec 2) : Statement (.trapa imm) := ⟨rfl, rfl⟩
theorem nop : Statement .nop := ⟨rfl, rfl⟩
theorem sleep : Statement .sleep := ⟨rfl, rfl⟩
theorem rte : Statement .rte := ⟨rfl, rfl⟩

end Sys2Proof.Laws.EncodeLength
end

