-- ==== Sys2Proof/Tests/Slice0.lean ====
section
/-! SUPPORT. Tests. Ill-formed terms, each refused; a word of every row of the opcode table, laid out from its encoding;
the one-instruction vectors of `95_test_vectors.md`; and, for every statement with hypotheses, a state and operands that
meet them. -/

namespace Sys2Proof.Machine

/-! ### Well-formedness: terms that some check refuses -/

/-- No term of the list is well-formed. -/
def noneWellFormed (is : List Instr) : Bool := is.all fun i => !i.wellFormed

theorem test_wellFormed_refuses_data_transfer_1 : noneWellFormed
  [.movLReg 8 0, .movLReg 0 8, .movLImm 0 8, .movBInd 8 0, .movWInd 8 0, .movLInd 8 0, .movLInd 0 8,
   .movBToInd 0 8, .movWToInd 0 8, .movLToInd 8 0, .movLToInd 0 8, .movBDisp16 0 8 0, .movWDisp16 0 8 0,
   .movLDisp16 0 8 0, .movLDisp16 0 0 8, .movBToDisp16 0 0 8, .movWToDisp16 0 0 8, .movLToDisp16 8 0 0,
   .movLToDisp16 0 0 8, .movBDisp24 0 8 0, .movWDisp24 0 8 0, .movLDisp24 0 8 0, .movLDisp24 0 0 8,
   .movBToDisp24 0 0 8, .movWToDisp24 0 0 8, .movLToDisp24 8 0 0, .movLToDisp24 0 0 8, .movBPostInc 8 0,
   .movWPostInc 8 0, .movLPostInc 8 0] = true := by
  decide +kernel

theorem test_wellFormed_refuses_data_transfer_2 : noneWellFormed
  [.movLPostInc 0 8, .movBToPreDec 0 8, .movWToPreDec 0 8, .movLToPreDec 8 0, .movLToPreDec 0 8, .movLAbs16 0 8,
   .movLAbs24 0 8, .movLToAbs16 8 0, .movLToAbs24 8 0] = true := by
  decide +kernel

theorem test_wellFormed_refuses_arithmetic_1 : noneWellFormed
  [.addLImm 0 8, .addLReg 8 0, .addLReg 0 8, .adds1 8, .adds2 8, .adds4 8, .incL1 8, .incL2 8, .subLImm 0 8,
   .subLReg 8 0, .subLReg 0 8, .subs1 8, .subs2 8, .subs4 8, .decL1 8, .decL2 8, .negL 8, .cmpLImm 0 8,
   .cmpLReg 8 0, .cmpLReg 0 8, .mulxuW 0 8, .mulxsW 0 8, .divxuW 0 8, .divxsW 0 8, .extuL 8, .extsL 8] = true := by
  decide +kernel

theorem test_wellFormed_refuses_logic_1 : noneWellFormed
  [.andLImm 0 8, .andLReg 8 0, .andLReg 0 8, .orLImm 0 8, .orLReg 8 0, .orLReg 0 8, .xorLImm 0 8, .xorLReg 8 0,
   .xorLReg 0 8, .notL 8] = true := by
  decide +kernel

theorem test_wellFormed_refuses_shift_1 : noneWellFormed
  [.shalL 8, .sharL 8, .shllL 8, .shlrL 8, .rotlL 8, .rotrL 8, .rotxlL 8, .rotxrL 8] = true := by
  decide +kernel

theorem test_wellFormed_refuses_bit_1 : noneWellFormed
  [.bsetImmInd 0 8, .bsetRegInd 0 8, .bnotImmInd 0 8, .bnotRegInd 0 8, .bclrImmInd 0 8, .bclrRegInd 0 8,
   .btstImmInd 0 8, .btstRegInd 0 8, .bldInd 0 8, .bildInd 0 8, .bstInd 0 8, .bistInd 0 8, .bandInd 0 8,
   .biandInd 0 8, .borInd 0 8, .biorInd 0 8, .bxorInd 0 8, .bixorInd 0 8] = true := by
  decide +kernel

theorem test_wellFormed_refuses_branch_1 : noneWellFormed
  [.jmpInd 8, .jsrInd 8] = true := by
  decide +kernel

theorem test_wellFormed_refuses_system_1 : noneWellFormed
  [.ldcWInd 8, .ldcWDisp16 0 8, .ldcWDisp24 0 8, .ldcWPostInc 8, .stcWToInd 8, .stcWToDisp16 0 8,
   .stcWToDisp24 0 8, .stcWToPreDec 8] = true := by
  decide +kernel

/-! ### Decoding: each row's bytes, written out from the encoding that the table gives, and the instruction they are -/

/-- The bytes decode to the instruction, and the instruction encodes to the bytes. -/
def eachReads (l : List (List Byte × Instr)) : Bool :=
  l.all fun (bs, i) => (match decode bs with
    | .ok j => i == j
    | .error _ => false) && encode i == bs

theorem test_decode_data_transfer_1 : eachReads
  [([0x0C, 0x9A], .movBReg 0x9 0xA),
   ([0x0D, 0x9A], .movWReg 0x9 0xA),
   ([0x0F, 0xE5], .movLReg 0x6 0x5),
   ([0xFA, 0x5A], .movBImm 0x5A 0xA),
   ([0x79, 0x0A, 0x5A, 0x3C], .movWImm 0x5A3C 0xA),
   ([0x7A, 0x05, 0x5A, 0x3C, 0x96, 0xE7], .movLImm 0x5A3C96E7 0x5),
   ([0x68, 0x6A], .movBInd 0x6 0xA),
   ([0x69, 0x6A], .movWInd 0x6 0xA),
   ([0x01, 0x00, 0x69, 0x65], .movLInd 0x6 0x5),
   ([0x68, 0xD9], .movBToInd 0x9 0x5),
   ([0x69, 0xD9], .movWToInd 0x9 0x5),
   ([0x01, 0x00, 0x69, 0xD6], .movLToInd 0x6 0x5),
   ([0x6E, 0x6A, 0x8B, 0xAD], .movBDisp16 0x8BAD 0x6 0xA),
   ([0x6F, 0x6A, 0x8B, 0xAD], .movWDisp16 0x8BAD 0x6 0xA),
   ([0x01, 0x00, 0x6F, 0x65, 0x8B, 0xAD], .movLDisp16 0x8BAD 0x6 0x5),
   ([0x6E, 0xD9, 0x8B, 0xAD], .movBToDisp16 0x9 0x8BAD 0x5),
   ([0x6F, 0xD9, 0x8B, 0xAD], .movWToDisp16 0x9 0x8BAD 0x5),
   ([0x01, 0x00, 0x6F, 0xD6, 0x8B, 0xAD], .movLToDisp16 0x6 0x8BAD 0x5),
   ([0x78, 0x60, 0x6A, 0x2A, 0x00, 0x8B, 0xAD, 0xF1], .movBDisp24 0x8BADF1 0x6 0xA),
   ([0x78, 0x60, 0x6B, 0x2A, 0x00, 0x8B, 0xAD, 0xF1], .movWDisp24 0x8BADF1 0x6 0xA),
   ([0x01, 0x00, 0x78, 0x60, 0x6B, 0x25, 0x00, 0x8B, 0xAD, 0xF1], .movLDisp24 0x8BADF1 0x6 0x5),
   ([0x78, 0x50, 0x6A, 0xA9, 0x00, 0x8B, 0xAD, 0xF1], .movBToDisp24 0x9 0x8BADF1 0x5),
   ([0x78, 0x50, 0x6B, 0xA9, 0x00, 0x8B, 0xAD, 0xF1], .movWToDisp24 0x9 0x8BADF1 0x5),
   ([0x01, 0x00, 0x78, 0x50, 0x6B, 0xA6, 0x00, 0x8B, 0xAD, 0xF1],
     .movLToDisp24 0x6 0x8BADF1 0x5)] = true := by decide +kernel

theorem test_decode_data_transfer_2 : eachReads
  [([0x6C, 0x6A], .movBPostInc 0x6 0xA),
   ([0x6D, 0x6A], .movWPostInc 0x6 0xA),
   ([0x01, 0x00, 0x6D, 0x65], .movLPostInc 0x6 0x5),
   ([0x6C, 0xD9], .movBToPreDec 0x9 0x5),
   ([0x6D, 0xD9], .movWToPreDec 0x9 0x5),
   ([0x01, 0x00, 0x6D, 0xD6], .movLToPreDec 0x6 0x5),
   ([0x2A, 0xC4], .movBAbs8 0xC4 0xA),
   ([0x6A, 0x0A, 0xC4, 0xD2], .movBAbs16 0xC4D2 0xA),
   ([0x6A, 0x2A, 0x00, 0xC4, 0xD2, 0xE1], .movBAbs24 0xC4D2E1 0xA),
   ([0x6B, 0x0A, 0xC4, 0xD2], .movWAbs16 0xC4D2 0xA),
   ([0x6B, 0x2A, 0x00, 0xC4, 0xD2, 0xE1], .movWAbs24 0xC4D2E1 0xA),
   ([0x01, 0x00, 0x6B, 0x05, 0xC4, 0xD2], .movLAbs16 0xC4D2 0x5),
   ([0x01, 0x00, 0x6B, 0x25, 0x00, 0xC4, 0xD2, 0xE1], .movLAbs24 0xC4D2E1 0x5),
   ([0x39, 0xC4], .movBToAbs8 0x9 0xC4),
   ([0x6A, 0x89, 0xC4, 0xD2], .movBToAbs16 0x9 0xC4D2),
   ([0x6A, 0xA9, 0x00, 0xC4, 0xD2, 0xE1], .movBToAbs24 0x9 0xC4D2E1),
   ([0x6B, 0x89, 0xC4, 0xD2], .movWToAbs16 0x9 0xC4D2),
   ([0x6B, 0xA9, 0x00, 0xC4, 0xD2, 0xE1], .movWToAbs24 0x9 0xC4D2E1),
   ([0x01, 0x00, 0x6B, 0x86, 0xC4, 0xD2], .movLToAbs16 0x6 0xC4D2),
   ([0x01, 0x00, 0x6B, 0xA6, 0x00, 0xC4, 0xD2, 0xE1], .movLToAbs24 0x6 0xC4D2E1),
   ([0x7B, 0x5C, 0x59, 0x8F], .eepmovB),
   ([0x7B, 0xD4, 0x59, 0x8F], .eepmovW),
   ([0x6A, 0x4A, 0xC4, 0xD2], .movfpe 0xC4D2 0xA),
   ([0x6A, 0xC9, 0xC4, 0xD2], .movtpe 0x9 0xC4D2)] = true := by decide +kernel

theorem test_decode_arithmetic_1 : eachReads
  [([0x8A, 0x5A], .addBImm 0x5A 0xA),
   ([0x08, 0x9A], .addBReg 0x9 0xA),
   ([0x79, 0x1A, 0x5A, 0x3C], .addWImm 0x5A3C 0xA),
   ([0x09, 0x9A], .addWReg 0x9 0xA),
   ([0x7A, 0x15, 0x5A, 0x3C, 0x96, 0xE7], .addLImm 0x5A3C96E7 0x5),
   ([0x0A, 0xE5], .addLReg 0x6 0x5),
   ([0x9A, 0x5A], .addxImm 0x5A 0xA),
   ([0x0E, 0x9A], .addxReg 0x9 0xA),
   ([0x0B, 0x05], .adds1 0x5),
   ([0x0B, 0x85], .adds2 0x5),
   ([0x0B, 0x95], .adds4 0x5),
   ([0x0A, 0x0A], .incB 0xA),
   ([0x0B, 0x5A], .incW1 0xA),
   ([0x0B, 0xDA], .incW2 0xA),
   ([0x0B, 0x75], .incL1 0x5),
   ([0x0B, 0xF5], .incL2 0x5),
   ([0x0F, 0x0A], .daa 0xA),
   ([0x18, 0x9A], .subBReg 0x9 0xA),
   ([0x79, 0x3A, 0x5A, 0x3C], .subWImm 0x5A3C 0xA),
   ([0x19, 0x9A], .subWReg 0x9 0xA),
   ([0x7A, 0x35, 0x5A, 0x3C, 0x96, 0xE7], .subLImm 0x5A3C96E7 0x5),
   ([0x1A, 0xE5], .subLReg 0x6 0x5),
   ([0xBA, 0x5A], .subxImm 0x5A 0xA),
   ([0x1E, 0x9A], .subxReg 0x9 0xA)] = true := by decide +kernel

theorem test_decode_arithmetic_2 : eachReads
  [([0x1B, 0x05], .subs1 0x5),
   ([0x1B, 0x85], .subs2 0x5),
   ([0x1B, 0x95], .subs4 0x5),
   ([0x1A, 0x0A], .decB 0xA),
   ([0x1B, 0x5A], .decW1 0xA),
   ([0x1B, 0xDA], .decW2 0xA),
   ([0x1B, 0x75], .decL1 0x5),
   ([0x1B, 0xF5], .decL2 0x5),
   ([0x1F, 0x0A], .das 0xA),
   ([0x17, 0x8A], .negB 0xA),
   ([0x17, 0x9A], .negW 0xA),
   ([0x17, 0xB5], .negL 0x5),
   ([0xAA, 0x5A], .cmpBImm 0x5A 0xA),
   ([0x1C, 0x9A], .cmpBReg 0x9 0xA),
   ([0x79, 0x2A, 0x5A, 0x3C], .cmpWImm 0x5A3C 0xA),
   ([0x1D, 0x9A], .cmpWReg 0x9 0xA),
   ([0x7A, 0x25, 0x5A, 0x3C, 0x96, 0xE7], .cmpLImm 0x5A3C96E7 0x5),
   ([0x1F, 0xE5], .cmpLReg 0x6 0x5),
   ([0x50, 0x9A], .mulxuB 0x9 0xA),
   ([0x52, 0x95], .mulxuW 0x9 0x5),
   ([0x01, 0xC0, 0x50, 0x9A], .mulxsB 0x9 0xA),
   ([0x01, 0xC0, 0x52, 0x95], .mulxsW 0x9 0x5),
   ([0x51, 0x9A], .divxuB 0x9 0xA),
   ([0x53, 0x95], .divxuW 0x9 0x5)] = true := by decide +kernel

theorem test_decode_arithmetic_3 : eachReads
  [([0x01, 0xD0, 0x51, 0x9A], .divxsB 0x9 0xA),
   ([0x01, 0xD0, 0x53, 0x95], .divxsW 0x9 0x5),
   ([0x17, 0x5A], .extuW 0xA),
   ([0x17, 0x75], .extuL 0x5),
   ([0x17, 0xDA], .extsW 0xA),
   ([0x17, 0xF5], .extsL 0x5)] = true := by decide +kernel

theorem test_decode_logic_1 : eachReads
  [([0xEA, 0x5A], .andBImm 0x5A 0xA),
   ([0x16, 0x9A], .andBReg 0x9 0xA),
   ([0x79, 0x6A, 0x5A, 0x3C], .andWImm 0x5A3C 0xA),
   ([0x66, 0x9A], .andWReg 0x9 0xA),
   ([0x7A, 0x65, 0x5A, 0x3C, 0x96, 0xE7], .andLImm 0x5A3C96E7 0x5),
   ([0x01, 0xF0, 0x66, 0x65], .andLReg 0x6 0x5),
   ([0xCA, 0x5A], .orBImm 0x5A 0xA),
   ([0x14, 0x9A], .orBReg 0x9 0xA),
   ([0x79, 0x4A, 0x5A, 0x3C], .orWImm 0x5A3C 0xA),
   ([0x64, 0x9A], .orWReg 0x9 0xA),
   ([0x7A, 0x45, 0x5A, 0x3C, 0x96, 0xE7], .orLImm 0x5A3C96E7 0x5),
   ([0x01, 0xF0, 0x64, 0x65], .orLReg 0x6 0x5),
   ([0xDA, 0x5A], .xorBImm 0x5A 0xA),
   ([0x15, 0x9A], .xorBReg 0x9 0xA),
   ([0x79, 0x5A, 0x5A, 0x3C], .xorWImm 0x5A3C 0xA),
   ([0x65, 0x9A], .xorWReg 0x9 0xA),
   ([0x7A, 0x55, 0x5A, 0x3C, 0x96, 0xE7], .xorLImm 0x5A3C96E7 0x5),
   ([0x01, 0xF0, 0x65, 0x65], .xorLReg 0x6 0x5),
   ([0x17, 0x0A], .notB 0xA),
   ([0x17, 0x1A], .notW 0xA),
   ([0x17, 0x35], .notL 0x5)] = true := by decide +kernel

theorem test_decode_shift_1 : eachReads
  [([0x10, 0x8A], .shalB 0xA),
   ([0x10, 0x9A], .shalW 0xA),
   ([0x10, 0xB5], .shalL 0x5),
   ([0x11, 0x8A], .sharB 0xA),
   ([0x11, 0x9A], .sharW 0xA),
   ([0x11, 0xB5], .sharL 0x5),
   ([0x10, 0x0A], .shllB 0xA),
   ([0x10, 0x1A], .shllW 0xA),
   ([0x10, 0x35], .shllL 0x5),
   ([0x11, 0x0A], .shlrB 0xA),
   ([0x11, 0x1A], .shlrW 0xA),
   ([0x11, 0x35], .shlrL 0x5),
   ([0x12, 0x8A], .rotlB 0xA),
   ([0x12, 0x9A], .rotlW 0xA),
   ([0x12, 0xB5], .rotlL 0x5),
   ([0x13, 0x8A], .rotrB 0xA),
   ([0x13, 0x9A], .rotrW 0xA),
   ([0x13, 0xB5], .rotrL 0x5),
   ([0x12, 0x0A], .rotxlB 0xA),
   ([0x12, 0x1A], .rotxlW 0xA),
   ([0x12, 0x35], .rotxlL 0x5),
   ([0x13, 0x0A], .rotxrB 0xA),
   ([0x13, 0x1A], .rotxrW 0xA),
   ([0x13, 0x35], .rotxrL 0x5)] = true := by decide +kernel

theorem test_decode_bit_1 : eachReads
  [([0x70, 0x5A], .bsetImmReg 0x5 0xA),
   ([0x60, 0xBA], .bsetRegReg 0xB 0xA),
   ([0x7D, 0x50, 0x70, 0x50], .bsetImmInd 0x5 0x5),
   ([0x7D, 0x50, 0x60, 0xB0], .bsetRegInd 0xB 0x5),
   ([0x7F, 0xC4, 0x70, 0x50], .bsetImmAbs8 0x5 0xC4),
   ([0x7F, 0xC4, 0x60, 0xB0], .bsetRegAbs8 0xB 0xC4),
   ([0x71, 0x5A], .bnotImmReg 0x5 0xA),
   ([0x61, 0xBA], .bnotRegReg 0xB 0xA),
   ([0x7D, 0x50, 0x71, 0x50], .bnotImmInd 0x5 0x5),
   ([0x7D, 0x50, 0x61, 0xB0], .bnotRegInd 0xB 0x5),
   ([0x7F, 0xC4, 0x71, 0x50], .bnotImmAbs8 0x5 0xC4),
   ([0x7F, 0xC4, 0x61, 0xB0], .bnotRegAbs8 0xB 0xC4),
   ([0x72, 0x5A], .bclrImmReg 0x5 0xA),
   ([0x62, 0xBA], .bclrRegReg 0xB 0xA),
   ([0x7D, 0x50, 0x72, 0x50], .bclrImmInd 0x5 0x5),
   ([0x7D, 0x50, 0x62, 0xB0], .bclrRegInd 0xB 0x5),
   ([0x7F, 0xC4, 0x72, 0x50], .bclrImmAbs8 0x5 0xC4),
   ([0x7F, 0xC4, 0x62, 0xB0], .bclrRegAbs8 0xB 0xC4),
   ([0x73, 0x5A], .btstImmReg 0x5 0xA),
   ([0x63, 0xBA], .btstRegReg 0xB 0xA),
   ([0x7C, 0x50, 0x73, 0x50], .btstImmInd 0x5 0x5),
   ([0x7C, 0x50, 0x63, 0xB0], .btstRegInd 0xB 0x5),
   ([0x7E, 0xC4, 0x73, 0x50], .btstImmAbs8 0x5 0xC4),
   ([0x7E, 0xC4, 0x63, 0xB0], .btstRegAbs8 0xB 0xC4)] = true := by decide +kernel

theorem test_decode_bit_2 : eachReads
  [([0x77, 0x5A], .bldReg 0x5 0xA),
   ([0x7C, 0x50, 0x77, 0x50], .bldInd 0x5 0x5),
   ([0x7E, 0xC4, 0x77, 0x50], .bldAbs8 0x5 0xC4),
   ([0x77, 0xDA], .bildReg 0x5 0xA),
   ([0x7C, 0x50, 0x77, 0xD0], .bildInd 0x5 0x5),
   ([0x7E, 0xC4, 0x77, 0xD0], .bildAbs8 0x5 0xC4),
   ([0x67, 0x5A], .bstReg 0x5 0xA),
   ([0x7D, 0x50, 0x67, 0x50], .bstInd 0x5 0x5),
   ([0x7F, 0xC4, 0x67, 0x50], .bstAbs8 0x5 0xC4),
   ([0x67, 0xDA], .bistReg 0x5 0xA),
   ([0x7D, 0x50, 0x67, 0xD0], .bistInd 0x5 0x5),
   ([0x7F, 0xC4, 0x67, 0xD0], .bistAbs8 0x5 0xC4),
   ([0x76, 0x5A], .bandReg 0x5 0xA),
   ([0x7C, 0x50, 0x76, 0x50], .bandInd 0x5 0x5),
   ([0x7E, 0xC4, 0x76, 0x50], .bandAbs8 0x5 0xC4),
   ([0x76, 0xDA], .biandReg 0x5 0xA),
   ([0x7C, 0x50, 0x76, 0xD0], .biandInd 0x5 0x5),
   ([0x7E, 0xC4, 0x76, 0xD0], .biandAbs8 0x5 0xC4),
   ([0x74, 0x5A], .borReg 0x5 0xA),
   ([0x7C, 0x50, 0x74, 0x50], .borInd 0x5 0x5),
   ([0x7E, 0xC4, 0x74, 0x50], .borAbs8 0x5 0xC4),
   ([0x74, 0xDA], .biorReg 0x5 0xA),
   ([0x7C, 0x50, 0x74, 0xD0], .biorInd 0x5 0x5),
   ([0x7E, 0xC4, 0x74, 0xD0], .biorAbs8 0x5 0xC4)] = true := by decide +kernel

theorem test_decode_bit_3 : eachReads
  [([0x75, 0x5A], .bxorReg 0x5 0xA),
   ([0x7C, 0x50, 0x75, 0x50], .bxorInd 0x5 0x5),
   ([0x7E, 0xC4, 0x75, 0x50], .bxorAbs8 0x5 0xC4),
   ([0x75, 0xDA], .bixorReg 0x5 0xA),
   ([0x7C, 0x50, 0x75, 0xD0], .bixorInd 0x5 0x5),
   ([0x7E, 0xC4, 0x75, 0xD0], .bixorAbs8 0x5 0xC4)] = true := by decide +kernel

theorem test_decode_branch_1 : eachReads
  [([0x40, 0x8B], .bra (.d8 0x8B)),
   ([0x41, 0x8B], .brn (.d8 0x8B)),
   ([0x42, 0x8B], .bhi (.d8 0x8B)),
   ([0x43, 0x8B], .bls (.d8 0x8B)),
   ([0x44, 0x8B], .bcc (.d8 0x8B)),
   ([0x45, 0x8B], .bcs (.d8 0x8B)),
   ([0x46, 0x8B], .bne (.d8 0x8B)),
   ([0x47, 0x8B], .beq (.d8 0x8B)),
   ([0x48, 0x8B], .bvc (.d8 0x8B)),
   ([0x49, 0x8B], .bvs (.d8 0x8B)),
   ([0x4A, 0x8B], .bpl (.d8 0x8B)),
   ([0x4B, 0x8B], .bmi (.d8 0x8B)),
   ([0x4C, 0x8B], .bge (.d8 0x8B)),
   ([0x4D, 0x8B], .blt (.d8 0x8B)),
   ([0x4E, 0x8B], .bgt (.d8 0x8B)),
   ([0x4F, 0x8B], .ble (.d8 0x8B)),
   ([0x58, 0x00, 0x8B, 0xAD], .bra (.d16 0x8BAD)),
   ([0x58, 0x10, 0x8B, 0xAD], .brn (.d16 0x8BAD)),
   ([0x58, 0x20, 0x8B, 0xAD], .bhi (.d16 0x8BAD)),
   ([0x58, 0x30, 0x8B, 0xAD], .bls (.d16 0x8BAD)),
   ([0x58, 0x40, 0x8B, 0xAD], .bcc (.d16 0x8BAD)),
   ([0x58, 0x50, 0x8B, 0xAD], .bcs (.d16 0x8BAD)),
   ([0x58, 0x60, 0x8B, 0xAD], .bne (.d16 0x8BAD)),
   ([0x58, 0x70, 0x8B, 0xAD], .beq (.d16 0x8BAD))] = true := by decide +kernel

theorem test_decode_branch_2 : eachReads
  [([0x58, 0x80, 0x8B, 0xAD], .bvc (.d16 0x8BAD)),
   ([0x58, 0x90, 0x8B, 0xAD], .bvs (.d16 0x8BAD)),
   ([0x58, 0xA0, 0x8B, 0xAD], .bpl (.d16 0x8BAD)),
   ([0x58, 0xB0, 0x8B, 0xAD], .bmi (.d16 0x8BAD)),
   ([0x58, 0xC0, 0x8B, 0xAD], .bge (.d16 0x8BAD)),
   ([0x58, 0xD0, 0x8B, 0xAD], .blt (.d16 0x8BAD)),
   ([0x58, 0xE0, 0x8B, 0xAD], .bgt (.d16 0x8BAD)),
   ([0x58, 0xF0, 0x8B, 0xAD], .ble (.d16 0x8BAD)),
   ([0x59, 0x30], .jmpInd 0x3),
   ([0x5A, 0xC4, 0xD2, 0xE1], .jmpAbs24 0xC4D2E1),
   ([0x5B, 0xC4], .jmpMemInd 0xC4),
   ([0x55, 0x8B], .bsr (.d8 0x8B)),
   ([0x5C, 0x00, 0x8B, 0xAD], .bsr (.d16 0x8BAD)),
   ([0x5D, 0x30], .jsrInd 0x3),
   ([0x5E, 0xC4, 0xD2, 0xE1], .jsrAbs24 0xC4D2E1),
   ([0x5F, 0xC4], .jsrMemInd 0xC4),
   ([0x54, 0x70], .rts)] = true := by decide +kernel

theorem test_decode_system_1 : eachReads
  [([0x07, 0x5A], .ldcBImm 0x5A),
   ([0x03, 0x09], .ldcBReg 0x9),
   ([0x01, 0x40, 0x69, 0x60], .ldcWInd 0x6),
   ([0x01, 0x40, 0x6F, 0x60, 0x8B, 0xAD], .ldcWDisp16 0x8BAD 0x6),
   ([0x01, 0x40, 0x78, 0x60, 0x6B, 0x20, 0x00, 0x8B, 0xAD, 0xF1], .ldcWDisp24 0x8BADF1 0x6),
   ([0x01, 0x40, 0x6D, 0x60], .ldcWPostInc 0x6),
   ([0x01, 0x40, 0x6B, 0x00, 0xC4, 0xD2], .ldcWAbs16 0xC4D2),
   ([0x01, 0x40, 0x6B, 0x20, 0x00, 0xC4, 0xD2, 0xE1], .ldcWAbs24 0xC4D2E1),
   ([0x02, 0x0A], .stcBReg 0xA),
   ([0x01, 0x40, 0x69, 0xD0], .stcWToInd 0x5),
   ([0x01, 0x40, 0x6F, 0xD0, 0x8B, 0xAD], .stcWToDisp16 0x8BAD 0x5),
   ([0x01, 0x40, 0x78, 0x50, 0x6B, 0xA0, 0x00, 0x8B, 0xAD, 0xF1], .stcWToDisp24 0x8BADF1 0x5),
   ([0x01, 0x40, 0x6D, 0xD0], .stcWToPreDec 0x5),
   ([0x01, 0x40, 0x6B, 0x80, 0xC4, 0xD2], .stcWToAbs16 0xC4D2),
   ([0x01, 0x40, 0x6B, 0xA0, 0x00, 0xC4, 0xD2, 0xE1], .stcWToAbs24 0xC4D2E1),
   ([0x06, 0x5A], .andc 0x5A),
   ([0x04, 0x5A], .orc 0x5A),
   ([0x05, 0x5A], .xorc 0x5A),
   ([0x00, 0x00], .nop),
   ([0x01, 0x80], .sleep),
   ([0x56, 0x70], .rte),
   ([0x57, 0x10], .trapa 0x1)] = true := by decide +kernel

/-- The host's numbering of a row's bits: bit 0 is the last byte's. -/
theorem test_decodeTableWord :
    decodeTableWord 16 0xF842 = some (.movBImm 0x42 8) ∧ decodeTableWord 16 0x0000 = some .nop
      ∧ decodeTableWord 32 0x01406D90 = some (.stcWToPreDec 1) := by decide +kernel

/-! ### One instruction on a small state: the vectors of `95_test_vectors.md` §2

The byte that the vector Y5 stores is left to the statements: STC.W draws the byte beside it, which no test can evaluate. -/

/-- One thing that a vector says of the state after. -/
inductive Check where
  | x (i : Fin 8) (v : Long)
  | half (r : Sel) (v : Half)
  | byte (r : Sel) (v : Byte)
  | mem (a : Addr) (v : Byte)
  | pc (a : Addr)
  /-- The flags of `mask` are those of `v`. -/
  | flags (mask v : Byte)
  | asleep
  | rejected

/-- A vector: the bytes, the state before, and what holds after. -/
structure Case where
  bytes : List Byte
  regs : List (Fin 8 × Long)
  pc : Addr
  ccr : Byte
  savedPC : Addr
  mem : List (Addr × Byte)
  checks : List Check

/-- The state before a vector's instruction. -/
def Case.before (c : Case) : State :=
  let s := { State.reset with pc := c.pc, ccr := Ccr.ofByte c.ccr, savedPC := c.savedPC }
  let s := c.regs.foldl (fun s r => s.setX r.1 r.2) s
  c.mem.foldl (fun s e => s.rawSet e.1 e.2) s

/-- The state after the instruction, and before any interrupt or tick; none where it is rejected. -/
def Case.after (c : Case) : Option State :=
  match decode c.bytes with
  | .error _ => none
  | .ok i =>
    match exec i c.before with
    | .next s => if s.faulted then none else some (s.retire i)
    | _ => none

def Check.holds (o : Option State) : Check → Bool
  | .x i v => o.any fun s => s.x i == v
  | .half r v => o.any fun s => s.get16 r == v
  | .byte r v => o.any fun s => s.get8 r == v
  | .mem a v => o.any fun s => s.raw a == v
  | .pc a => o.any fun s => s.pc == a
  | .flags mask v => o.any fun s =>
      [(0, s.ccr.c), (1, s.ccr.v), (2, s.ccr.z), (3, s.ccr.n), (4, s.ccr.u), (5, s.ccr.h), (6, s.ccr.ui), (7, s.ccr.i)].all
        fun (k, f) => !mask.getLsbD k || f == v.getLsbD k
  | .asleep => o.any fun s => s.sleep
  | .rejected => o.isNone

def allPass (l : List Case) : Bool := l.all fun c => c.checks.all (Check.holds c.after)

theorem test_vectors_DataTransfer_D1_to_D12 : allPass
  [⟨[0xF8, 0x42], [(0, 0x0)], 0x4000, 0x80, 0x0000, [], [.x 0 0x00000042, .pc 0x4002, .flags 0x0E 0x00]⟩,
   ⟨[0xF8, 0x80], [], 0x4000, 0x80, 0x0000, [], [.byte 8 0x80, .flags 0x0E 0x08]⟩,
   ⟨[0xF8, 0x00], [], 0x4000, 0x80, 0x0000, [], [.byte 8 0x00, .flags 0x0E 0x04]⟩,
   ⟨[0x79, 0x09, 0x80, 0x00], [(1, 0x5555)], 0x4000, 0x80, 0x0000, [], [.x 1 0x80005555, .pc 0x4004,
     .flags 0x0E 0x08]⟩,
   ⟨[0x0F, 0x81], [(0, 0x12345678)], 0x4000, 0x80, 0x0000, [], [.x 1 0x12345678, .flags 0x0E 0x00]⟩,
   ⟨[0x0C, 0x98], [(1, 0xC3)], 0x4000, 0x80, 0x0000, [], [.byte 8 0xC3, .flags 0x0E 0x08]⟩,
   ⟨[0x6A, 0x08, 0x12, 0x34], [], 0x4000, 0x80, 0x0000, [(0x1234, 0x7F)], [.byte 8 0x7F, .pc 0x4004,
     .flags 0x0E 0x00]⟩,
   ⟨[0x6B, 0x81, 0xFF, 0xFF], [(1, 0xA55A)], 0x4000, 0x80, 0x0000, [], [.mem 0xFFFF 0xA5, .mem 0x0000 0x5A,
     .pc 0x4004, .flags 0x0E 0x08]⟩,
   ⟨[0x01, 0x00, 0x6B, 0x80, 0x80, 0x00], [(0, 0x12345678)], 0x4000, 0x80, 0x0000, [], [.mem 0x8000 0x12,
     .mem 0x8001 0x34, .mem 0x8002 0x56, .mem 0x8003 0x78, .pc 0x4006]⟩,
   ⟨[0x6F, 0x10, 0xFF, 0xFE], [(1, 0x1000)], 0x4000, 0x80, 0x0000, [(0x0FFE, 0x00), (0x0FFF, 0x01)], [.half 0 0x0001,
     .flags 0x0E 0x00]⟩,
   ⟨[0x78, 0x10, 0x6A, 0x28, 0x00, 0xFF, 0xFF, 0xFF], [(1, 0x1000)], 0x4000, 0x80, 0x0000, [(0x0FFF, 0x80)],
     [.byte 8 0x80, .pc 0x4008, .flags 0x0E 0x08]⟩,
   ⟨[0x78, 0x10, 0x6A, 0x28, 0x01, 0xFF, 0xFF, 0xFF], [(1, 0x1000)], 0x4000, 0x80, 0x0000, [],
     [.rejected]⟩] = true := by decide +kernel

theorem test_vectors_DataTransfer_D13_to_D24 : allPass
  [⟨[0x6C, 0x18], [(1, 0xFFFF)], 0x4000, 0x80, 0x0000, [(0xFFFF, 0x11)], [.byte 8 0x11, .x 1 0x00010000]⟩,
   ⟨[0x6C, 0x18], [(1, 0x3000)], 0x4000, 0x80, 0x0000, [(0x3000, 0x11)], [.byte 8 0x11, .x 1 0x00003001]⟩,
   ⟨[0x6D, 0xF1], [(1, 0xBEEF), (7, 0xFF80)], 0x4000, 0x80, 0x0000, [], [.x 7 0x0000FF7E, .mem 0xFF7E 0xBE,
     .mem 0xFF7F 0xEF, .flags 0x0E 0x08]⟩,
   ⟨[0x6D, 0x73], [(7, 0xFF7E)], 0x4000, 0x80, 0x0000, [(0xFF7E, 0xBE), (0xFF7F, 0xEF)], [.half 3 0xBEEF,
     .x 7 0x0000FF80, .flags 0x0E 0x08]⟩,
   ⟨[0x6D, 0xF7], [(7, 0xFF80)], 0x4000, 0x80, 0x0000, [], [.x 7 0x0000FF7E]⟩,
   ⟨[0x01, 0x00, 0x6D, 0xF0], [(0, 0xCAFEF00D), (7, 0xFF80)], 0x4000, 0x80, 0x0000, [], [.x 7 0x0000FF7C,
     .mem 0xFF7C 0xCA, .mem 0xFF7D 0xFE, .mem 0xFF7E 0xF0, .mem 0xFF7F 0x0D, .flags 0x0E 0x08]⟩,
   ⟨[0x7B, 0x5C, 0x59, 0x8F], [(4, 0x3), (5, 0xF780), (6, 0xF800)], 0x4000, 0x80, 0x0000, [(0xF780, 0x31), (0xF781,
     0x32), (0xF782, 0x33)], [.byte 12 0x00, .x 5 0x0000F783, .x 6 0x0000F803, .mem 0xF800 0x31, .mem 0xF801 0x32,
       .mem 0xF802 0x33, .flags 0xFF 0x80]⟩,
   ⟨[0x7B, 0x5C, 0x59, 0x8F], [(4, 0x3), (5, 0x1000), (6, 0x1001)], 0x4000, 0x80, 0x0000, [(0x1000, 0x77)],
     [.mem 0x1001 0x77, .mem 0x1002 0x77, .mem 0x1003 0x77]⟩,
   ⟨[0x7B, 0xD4, 0x59, 0x8F], [(4, 0x2), (5, 0x100), (6, 0x200)], 0x4000, 0x80, 0x0000, [(0x0100, 0x31), (0x0101,
     0x32)], [.half 4 0x0000, .mem 0x0200 0x31, .mem 0x0201 0x32]⟩,
   ⟨[0x6A, 0x4D, 0x12, 0x34], [], 0x4000, 0x80, 0x0000, [], [.rejected]⟩] = true := by decide +kernel

theorem test_vectors_Arithmetic_A1_to_A12 : allPass
  [⟨[0x88, 0x01], [(0, 0xFF)], 0x4000, 0x80, 0x0000, [], [.byte 8 0x00, .flags 0x2F 0x25]⟩,
   ⟨[0x08, 0x98], [(0, 0x80), (1, 0x80)], 0x4000, 0x80, 0x0000, [], [.byte 8 0x00, .flags 0x2F 0x07]⟩,
   ⟨[0x08, 0x98], [(0, 0x8), (1, 0x8)], 0x4000, 0x80, 0x0000, [], [.byte 8 0x10, .flags 0x2F 0x20]⟩,
   ⟨[0x09, 0x10], [(0, 0x7FFF), (1, 0x1)], 0x4000, 0x80, 0x0000, [], [.half 0 0x8000, .flags 0x2F 0x2A]⟩,
   ⟨[0x09, 0x10], [(0, 0xFF), (1, 0x1)], 0x4000, 0x80, 0x0000, [], [.half 0 0x0100, .flags 0x2F 0x20]⟩,
   ⟨[0x09, 0x10], [(0, 0xFFF), (1, 0x1)], 0x4000, 0x80, 0x0000, [], [.half 0 0x1000, .flags 0x2F 0x20]⟩,
   ⟨[0x0A, 0x90], [(0, 0xFFFFFFFF), (1, 0x1)], 0x4000, 0x80, 0x0000, [], [.x 0 0x00000000, .flags 0x2F 0x25]⟩,
   ⟨[0x0A, 0x90], [(0, 0xFFFF), (1, 0x1)], 0x4000, 0x80, 0x0000, [], [.x 0 0x00010000, .flags 0x2F 0x20]⟩,
   ⟨[0x0A, 0x90], [(0, 0x80000000), (1, 0xFFFFFFFF)], 0x4000, 0x80, 0x0000, [], [.x 0 0x7FFFFFFF, .flags 0x2F 0x03]⟩,
   ⟨[0x0E, 0x98], [(0, 0xFF), (1, 0x0)], 0x4000, 0x85, 0x0000, [], [.byte 8 0x00, .flags 0x2F 0x25]⟩,
   ⟨[0x0E, 0x98], [(0, 0xFF), (1, 0x0)], 0x4000, 0x81, 0x0000, [], [.byte 8 0x00, .flags 0x25 0x21]⟩,
   ⟨[0x98, 0x05], [(0, 0x10)], 0x4000, 0x85, 0x0000, [], [.byte 8 0x16, .flags 0x25 0x00]⟩] = true := by decide +kernel

theorem test_vectors_Arithmetic_A13_to_A24 : allPass
  [⟨[0x1E, 0x98], [(0, 0x0), (1, 0x0)], 0x4000, 0x85, 0x0000, [], [.byte 8 0xFF, .flags 0x2F 0x29]⟩,
   ⟨[0x1E, 0x98], [(0, 0x0), (1, 0xFF)], 0x4000, 0x85, 0x0000, [], [.byte 8 0x00, .flags 0x25 0x25]⟩,
   ⟨[0x0B, 0x90], [(0, 0xFFFFFFFF)], 0x4000, 0x80, 0x0000, [], [.x 0 0x00000003, .flags 0xFF 0x80]⟩,
   ⟨[0x1B, 0x00], [(0, 0x0)], 0x4000, 0x80, 0x0000, [], [.x 0 0xFFFFFFFF, .flags 0xFF 0x80]⟩,
   ⟨[0x0A, 0x08], [(0, 0x7F)], 0x4000, 0x80, 0x0000, [], [.byte 8 0x80, .flags 0x2F 0x0A]⟩,
   ⟨[0x0A, 0x08], [(0, 0xFF)], 0x4000, 0x80, 0x0000, [], [.byte 8 0x00, .flags 0x0E 0x04]⟩,
   ⟨[0x0B, 0xD0], [(0, 0x7FFE)], 0x4000, 0x80, 0x0000, [], [.half 0 0x8000, .flags 0x0A 0x0A]⟩,
   ⟨[0x0B, 0xD0], [(0, 0x7FFF)], 0x4000, 0x80, 0x0000, [], [.half 0 0x8001, .flags 0x0A 0x0A]⟩,
   ⟨[0x0B, 0xF0], [(0, 0xFFFFFFFF)], 0x4000, 0x80, 0x0000, [], [.x 0 0x00000001, .flags 0x0E 0x00]⟩,
   ⟨[0x1A, 0x08], [(0, 0x80)], 0x4000, 0x80, 0x0000, [], [.byte 8 0x7F, .flags 0x0E 0x02]⟩,
   ⟨[0x1A, 0x08], [(0, 0x0)], 0x4000, 0x80, 0x0000, [], [.byte 8 0xFF, .flags 0x0E 0x08]⟩,
   ⟨[0x1B, 0xD1], [(1, 0x8001)], 0x4000, 0x80, 0x0000, [], [.half 1 0x7FFF,
     .flags 0x0A 0x02]⟩] = true := by decide +kernel

theorem test_vectors_Arithmetic_A25_to_A36 : allPass
  [⟨[0x1B, 0x70], [(0, 0x1)], 0x4000, 0x80, 0x0000, [], [.x 0 0x00000000, .flags 0x06 0x04]⟩,
   ⟨[0x18, 0x98], [(0, 0x80), (1, 0x1)], 0x4000, 0x80, 0x0000, [], [.byte 8 0x7F, .flags 0x2F 0x22]⟩,
   ⟨[0x19, 0x10], [(0, 0x100), (1, 0x1)], 0x4000, 0x80, 0x0000, [], [.half 0 0x00FF, .flags 0x21 0x20]⟩,
   ⟨[0x1A, 0x90], [(0, 0x80000000), (1, 0x1)], 0x4000, 0x80, 0x0000, [], [.x 0 0x7FFFFFFF, .flags 0x2F 0x22]⟩,
   ⟨[0x19, 0x11], [(1, 0x1234)], 0x4000, 0x80, 0x0000, [], [.half 1 0x0000, .flags 0x2F 0x04]⟩,
   ⟨[0x17, 0x88], [(0, 0x80)], 0x4000, 0x80, 0x0000, [], [.byte 8 0x80, .flags 0x2F 0x0B]⟩,
   ⟨[0x17, 0x88], [(0, 0x0)], 0x4000, 0x80, 0x0000, [], [.byte 8 0x00, .flags 0x27 0x04]⟩,
   ⟨[0x17, 0x88], [(0, 0x1)], 0x4000, 0x80, 0x0000, [], [.byte 8 0xFF, .flags 0x2B 0x29]⟩,
   ⟨[0x17, 0x90], [(0, 0x8000)], 0x4000, 0x80, 0x0000, [], [.half 0 0x8000, .flags 0x2B 0x0B]⟩,
   ⟨[0xA8, 0x80], [(0, 0x7F)], 0x4000, 0x80, 0x0000, [], [.flags 0x2F 0x0B]⟩,
   ⟨[0xA8, 0x05], [(0, 0x5)], 0x4000, 0x80, 0x0000, [], [.flags 0x2F 0x04]⟩,
   ⟨[0x1D, 0x10], [(0, 0x1000), (1, 0x2000)], 0x4000, 0x80, 0x0000, [],
     [.flags 0x2F 0x09]⟩] = true := by decide +kernel

theorem test_vectors_Arithmetic_A37_to_A49 : allPass
  [⟨[0x1F, 0x90], [(0, 0x80000000), (1, 0x1)], 0x4000, 0x80, 0x0000, [], [.flags 0x2F 0x22]⟩,
   ⟨[0x0F, 0x08], [(0, 0x3C)], 0x4000, 0x80, 0x0000, [], [.byte 8 0x42, .flags 0x0D 0x00]⟩,
   ⟨[0x0F, 0x08], [(0, 0x41)], 0x4000, 0xA0, 0x0000, [], [.byte 8 0x47, .flags 0x01 0x00]⟩,
   ⟨[0x0F, 0x08], [(0, 0x9A)], 0x4000, 0x80, 0x0000, [], [.byte 8 0x00, .flags 0x05 0x05]⟩,
   ⟨[0x1F, 0x08], [(0, 0x2D)], 0x4000, 0xA0, 0x0000, [], [.byte 8 0x27, .flags 0x01 0x00]⟩,
   ⟨[0x1F, 0x08], [(0, 0xF)], 0x4000, 0xA0, 0x0000, [], [.byte 8 0x09, .flags 0x01 0x00]⟩,
   ⟨[0x1F, 0x08], [(0, 0xFF)], 0x4000, 0xA1, 0x0000, [], [.byte 8 0x99, .flags 0x09 0x09]⟩,
   ⟨[0x50, 0x90], [(0, 0xFF), (1, 0xFF)], 0x4000, 0x80, 0x0000, [], [.half 0 0xFE01, .flags 0xFF 0x80]⟩,
   ⟨[0x52, 0x21], [(1, 0xFFFF), (2, 0xFFFF)], 0x4000, 0x80, 0x0000, [], [.x 1 0xFFFE0001]⟩,
   ⟨[0x01, 0xC0, 0x50, 0x12], [(1, 0x400), (2, 0xFD)], 0x4000, 0x80, 0x0000, [], [.half 2 0xFFF4, .flags 0x0C 0x08]⟩,
   ⟨[0x01, 0xC0, 0x52, 0x21], [(1, 0xFFFF), (2, 0x2)], 0x4000, 0x80, 0x0000, [], [.x 1 0xFFFFFFFE, .flags 0x0C 0x08]⟩,
   ⟨[0x01, 0xC0, 0x52, 0x21], [(1, 0x8000), (2, 0x8000)], 0x4000, 0x80, 0x0000, [], [.x 1 0x40000000,
     .flags 0x0C 0x00]⟩] = true := by decide +kernel

theorem test_vectors_Arithmetic_A50_to_A61 : allPass
  [⟨[0x51, 0x90], [(0, 0x7), (1, 0x2)], 0x4000, 0x80, 0x0000, [], [.half 0 0x0103, .flags 0x0C 0x00]⟩,
   ⟨[0x51, 0x90], [(0, 0x7), (1, 0x0)], 0x4000, 0x80, 0x0000, [], [.flags 0x0C 0x04]⟩,
   ⟨[0x51, 0x90], [(0, 0x200), (1, 0x1)], 0x4000, 0x80, 0x0000, [], [.flags 0x0C 0x00]⟩,
   ⟨[0x51, 0x90], [(0, 0x100), (1, 0x80)], 0x4000, 0x80, 0x0000, [], [.half 0 0x0002, .flags 0x0C 0x08]⟩,
   ⟨[0x53, 0x21], [(1, 0x10001), (2, 0x2)], 0x4000, 0x80, 0x0000, [], [.x 1 0x00018000, .flags 0x0C 0x00]⟩,
   ⟨[0x01, 0xD0, 0x51, 0x90], [(0, 0xFFF9), (1, 0x2)], 0x4000, 0x80, 0x0000, [], [.half 0 0xFFFD, .flags 0x0C 0x08]⟩,
   ⟨[0x01, 0xD0, 0x51, 0x90], [(0, 0x7), (1, 0xFE)], 0x4000, 0x80, 0x0000, [], [.half 0 0x01FD, .flags 0x08 0x08]⟩,
   ⟨[0x01, 0xD0, 0x51, 0x90], [(0, 0xFFF9), (1, 0xFE)], 0x4000, 0x80, 0x0000, [], [.half 0 0xFF03, .flags 0x08 0x00]⟩,
   ⟨[0x01, 0xD0, 0x51, 0x90], [(0, 0xFFFF), (1, 0x5)], 0x4000, 0x80, 0x0000, [], [.half 0 0xFF00]⟩,
   ⟨[0x01, 0xD0, 0x51, 0x90], [(0, 0x8000), (1, 0xFF)], 0x4000, 0x80, 0x0000, [], [.flags 0x04 0x00]⟩,
   ⟨[0x01, 0xD0, 0x53, 0x10], [(0, 0x7), (1, 0xFFFE)], 0x4000, 0x80, 0x0000, [], [.x 0 0x0001FFFD, .flags 0x08 0x08]⟩,
   ⟨[0x17, 0x50], [(0, 0x12F0)], 0x4000, 0x80, 0x0000, [], [.half 0 0x00F0,
     .flags 0x0E 0x00]⟩] = true := by decide +kernel

theorem test_vectors_Arithmetic_A62_to_A65 : allPass
  [⟨[0x17, 0xD0], [(0, 0x1280)], 0x4000, 0x80, 0x0000, [], [.half 0 0xFF80, .flags 0x0E 0x08]⟩,
   ⟨[0x17, 0xF0], [(0, 0x12348000)], 0x4000, 0x80, 0x0000, [], [.x 0 0xFFFF8000, .flags 0x08 0x08]⟩,
   ⟨[0x17, 0x7A], [], 0x4000, 0x80, 0x0000, [], [.rejected]⟩,
   ⟨[0x0A, 0x18], [], 0x4000, 0x80, 0x0000, [], [.rejected]⟩] = true := by decide +kernel

theorem test_vectors_Logic_G1_to_G11 : allPass
  [⟨[0xE8, 0x3C], [(0, 0xF0)], 0x4000, 0x80, 0x0000, [], [.byte 8 0x30, .flags 0x2F 0x00]⟩,
   ⟨[0xC8, 0x01], [(0, 0x80)], 0x4000, 0x80, 0x0000, [], [.byte 8 0x81, .flags 0x0E 0x08]⟩,
   ⟨[0xD8, 0xFF], [(0, 0xFF)], 0x4000, 0x80, 0x0000, [], [.byte 8 0x00, .flags 0x0E 0x04]⟩,
   ⟨[0x16, 0x98], [(0, 0xF), (1, 0xF0)], 0x4000, 0x80, 0x0000, [], [.byte 8 0x00, .flags 0x04 0x04]⟩,
   ⟨[0x64, 0x98], [(0, 0x80000000), (1, 0x10000)], 0x4000, 0x80, 0x0000, [], [.half 8 0x8001, .flags 0x0C 0x08]⟩,
   ⟨[0x65, 0x10], [(0, 0x1234), (1, 0x1234)], 0x4000, 0x80, 0x0000, [], [.half 0 0x0000, .flags 0x0E 0x04]⟩,
   ⟨[0x7A, 0x60, 0x00, 0x00, 0xFF, 0xFF], [(0, 0x12345678)], 0x4000, 0x80, 0x0000, [], [.x 0 0x00005678,
     .flags 0x0E 0x00]⟩,
   ⟨[0x01, 0xF0, 0x66, 0x10], [(0, 0xFFFF0000), (1, 0x8000FFFF)], 0x4000, 0x80, 0x0000, [], [.x 0 0x80000000,
     .flags 0x08 0x08]⟩,
   ⟨[0x17, 0x08], [(0, 0x0)], 0x4000, 0x80, 0x0000, [], [.byte 8 0xFF, .flags 0x0E 0x08]⟩,
   ⟨[0x17, 0x11], [(1, 0xFFFF)], 0x4000, 0x80, 0x0000, [], [.half 1 0x0000, .flags 0x04 0x04]⟩,
   ⟨[0x17, 0x30], [(0, 0x7FFFFFFF)], 0x4000, 0x80, 0x0000, [], [.x 0 0x80000000,
     .flags 0x08 0x08]⟩] = true := by decide +kernel

theorem test_vectors_Shift_S1_to_S12 : allPass
  [⟨[0x10, 0x88], [(0, 0x40)], 0x4000, 0x80, 0x0000, [], [.byte 8 0x80, .flags 0x0F 0x0A]⟩,
   ⟨[0x10, 0x88], [(0, 0x80)], 0x4000, 0x80, 0x0000, [], [.byte 8 0x00, .flags 0x0F 0x07]⟩,
   ⟨[0x10, 0x88], [(0, 0xC0)], 0x4000, 0x80, 0x0000, [], [.byte 8 0x80, .flags 0x0B 0x09]⟩,
   ⟨[0x10, 0x30], [(0, 0x80000000)], 0x4000, 0x80, 0x0000, [], [.x 0 0x00000000, .flags 0x0F 0x05]⟩,
   ⟨[0x11, 0x88], [(0, 0x81)], 0x4000, 0x80, 0x0000, [], [.byte 8 0xC0, .flags 0x0B 0x09]⟩,
   ⟨[0x11, 0x88], [(0, 0x1)], 0x4000, 0x80, 0x0000, [], [.byte 8 0x00, .flags 0x05 0x05]⟩,
   ⟨[0x11, 0xB0], [(0, 0x80000001)], 0x4000, 0x80, 0x0000, [], [.x 0 0xC0000000, .flags 0x09 0x09]⟩,
   ⟨[0x11, 0x08], [(0, 0x81)], 0x4000, 0x80, 0x0000, [], [.byte 8 0x40, .flags 0x09 0x01]⟩,
   ⟨[0x12, 0x88], [(0, 0x81)], 0x4000, 0x80, 0x0000, [], [.byte 8 0x03, .flags 0x09 0x01]⟩,
   ⟨[0x13, 0x89], [(1, 0x1)], 0x4000, 0x80, 0x0000, [], [.byte 9 0x80, .flags 0x09 0x09]⟩,
   ⟨[0x13, 0xB0], [(0, 0x1)], 0x4000, 0x80, 0x0000, [], [.x 0 0x80000000, .flags 0x09 0x09]⟩,
   ⟨[0x12, 0x08], [(0, 0x80)], 0x4000, 0x80, 0x0000, [], [.byte 8 0x00, .flags 0x05 0x05]⟩] = true := by decide +kernel

theorem test_vectors_Shift_S13_to_S17 : allPass
  [⟨[0x12, 0x08], [(0, 0x80)], 0x4000, 0x81, 0x0000, [], [.byte 8 0x01, .flags 0x01 0x01]⟩,
   ⟨[0x13, 0x08], [(0, 0x1)], 0x4000, 0x81, 0x0000, [], [.byte 8 0x80, .flags 0x09 0x09]⟩,
   ⟨[0x13, 0x10], [(0, 0x2)], 0x4000, 0x81, 0x0000, [], [.half 0 0x8001, .flags 0x09 0x08]⟩,
   ⟨[0x12, 0xF0], [], 0x4000, 0x80, 0x0000, [], [.rejected]⟩] = true := by decide +kernel

theorem test_vectors_Bit_T1_to_T12 : allPass
  [⟨[0x7F, 0xD4, 0x70, 0x70], [], 0x4000, 0x80, 0x0000, [(0xFFD4, 0x01)], [.mem 0xFFD4 0x81]⟩,
   ⟨[0x7F, 0xD4, 0x72, 0x70], [], 0x4000, 0x80, 0x0000, [(0xFFD4, 0x81)], [.mem 0xFFD4 0x01]⟩,
   ⟨[0x7F, 0xD4, 0x70, 0x70], [], 0x4000, 0x80, 0x0000, [(0xFFD4, 0x81)], [.mem 0xFFD4 0x81]⟩,
   ⟨[0x71, 0x08], [(0, 0x1)], 0x4000, 0x80, 0x0000, [], [.byte 8 0x00, .flags 0xFF 0x80]⟩,
   ⟨[0x73, 0x38], [(0, 0x8)], 0x4000, 0x80, 0x0000, [], [.flags 0x04 0x00]⟩,
   ⟨[0x73, 0x38], [(0, 0x0)], 0x4000, 0x80, 0x0000, [], [.flags 0x04 0x04]⟩,
   ⟨[0x7E, 0xE4, 0x73, 0x20], [], 0x4000, 0x80, 0x0000, [(0xFFE4, 0x04)], [.flags 0x04 0x00]⟩,
   ⟨[0x77, 0x78], [(0, 0x80)], 0x4000, 0x80, 0x0000, [], [.flags 0x01 0x01]⟩,
   ⟨[0x77, 0xF8], [(0, 0x80)], 0x4000, 0x80, 0x0000, [], [.flags 0x01 0x00]⟩,
   ⟨[0x67, 0x0A], [(2, 0x0)], 0x4000, 0x81, 0x0000, [], [.byte 10 0x01]⟩,
   ⟨[0x67, 0x98], [(0, 0x2)], 0x4000, 0x81, 0x0000, [], [.byte 8 0x00]⟩,
   ⟨[0x76, 0x08], [(0, 0x0)], 0x4000, 0x81, 0x0000, [], [.flags 0x01 0x00]⟩] = true := by decide +kernel

theorem test_vectors_Bit_T13_to_T19 : allPass
  [⟨[0x76, 0x88], [(0, 0x0)], 0x4000, 0x81, 0x0000, [], [.flags 0x01 0x01]⟩,
   ⟨[0x74, 0x08], [(0, 0x1)], 0x4000, 0x80, 0x0000, [], [.flags 0x01 0x01]⟩,
   ⟨[0x75, 0x08], [(0, 0x1)], 0x4000, 0x81, 0x0000, [], [.flags 0x01 0x00]⟩,
   ⟨[0x60, 0x98], [(0, 0x0), (1, 0xB)], 0x4000, 0x80, 0x0000, [], [.byte 8 0x08]⟩,
   ⟨[0x7C, 0x10, 0x76, 0x00], [(1, 0xFF10)], 0x4000, 0x81, 0x0000, [(0xFF10, 0x01)], [.flags 0x01 0x01]⟩,
   ⟨[0x7C, 0x00, 0x70, 0x00], [], 0x4000, 0x80, 0x0000, [], [.rejected]⟩,
   ⟨[0x7D, 0x00, 0x73, 0x00], [], 0x4000, 0x80, 0x0000, [], [.rejected]⟩] = true := by decide +kernel

theorem test_vectors_Branch_B1_to_B14 : allPass
  [⟨[0x40, 0xFE], [], 0x0100, 0x80, 0x0000, [], [.pc 0x0100]⟩,
   ⟨[0x40, 0x0E], [], 0x0100, 0x80, 0x0000, [], [.pc 0x0110]⟩,
   ⟨[0x40, 0x80], [], 0x0100, 0x80, 0x0000, [], [.pc 0x0082]⟩,
   ⟨[0x40, 0x02], [], 0xFFFE, 0x80, 0x0000, [], [.pc 0x0002]⟩,
   ⟨[0x58, 0x00, 0xFF, 0xFC], [], 0x0200, 0x80, 0x0000, [], [.pc 0x0200]⟩,
   ⟨[0x41, 0x10], [], 0x0200, 0x80, 0x0000, [], [.pc 0x0202]⟩,
   ⟨[0x58, 0x61, 0x00, 0x00], [], 0x0200, 0x80, 0x0000, [], [.rejected]⟩,
   ⟨[0x55, 0x10], [(7, 0xFF80)], 0x0300, 0x80, 0x0000, [], [.x 7 0x0000FF7E, .mem 0xFF7E 0x03, .mem 0xFF7F 0x02,
     .pc 0x0312]⟩,
   ⟨[0x5E, 0x00, 0x12, 0x34], [(7, 0xFF80)], 0x0400, 0x80, 0x0000, [], [.mem 0xFF7E 0x04, .mem 0xFF7F 0x04,
     .pc 0x1234]⟩,
   ⟨[0x54, 0x70], [(7, 0xFF7E)], 0x4000, 0x80, 0x0000, [(0xFF7E, 0x03), (0xFF7F, 0x02)], [.x 7 0x0000FF80,
     .pc 0x0302]⟩,
   ⟨[0x59, 0x20], [(2, 0x11234)], 0x4000, 0x80, 0x0000, [], [.pc 0x1234]⟩,
   ⟨[0x5B, 0x10], [], 0x4000, 0x80, 0x0000, [(0x0010, 0x12), (0x0011, 0x34)],
     [.pc 0x1234]⟩] = true := by decide +kernel

theorem test_vectors_Branch_B15_to_B18 : allPass
  [⟨[0x5F, 0x10], [(7, 0xFF80)], 0x0500, 0x80, 0x0000, [(0x0010, 0x12), (0x0011, 0x34)], [.mem 0xFF7E 0x05,
    .mem 0xFF7F 0x02, .pc 0x1234]⟩,
   ⟨[0x5D, 0x70], [(7, 0xFF80)], 0x0600, 0x80, 0x0000, [], [.mem 0xFF7E 0x06, .mem 0xFF7F 0x02, .pc 0xFF80]⟩,
   ⟨[0x55, 0x00], [(7, 0x0)], 0x0700, 0x80, 0x0000, [], [.x 7 0xFFFFFFFE, .mem 0xFFFE 0x07, .mem 0xFFFF 0x02,
     .pc 0x0702]⟩,
   ⟨[0x40, 0x7E], [], 0x0100, 0x80, 0x0000, [(0x0180, 0x00), (0x0181, 0x00)],
     [.pc 0x0180]⟩] = true := by decide +kernel

theorem test_vectors_System_Y1_to_Y12 : allPass
  [⟨[0x07, 0x00], [], 0x4000, 0x80, 0x0000, [], [.flags 0xFF 0x00]⟩,
   ⟨[0x02, 0x08], [], 0x4000, 0x84, 0x0000, [], [.byte 8 0x84]⟩,
   ⟨[0x03, 0x08], [(0, 0x85)], 0x4000, 0x80, 0x0000, [], [.flags 0xFF 0x85]⟩,
   ⟨[0x01, 0x40, 0x6D, 0x10], [(1, 0x2000)], 0x4000, 0x80, 0x0000, [(0x2000, 0x85), (0x2001, 0x00)], [.x 1 0x00002002,
     .flags 0xFF 0x85]⟩,
   ⟨[0x01, 0x40, 0x6D, 0x90], [(1, 0x2002)], 0x4000, 0x85, 0x0000, [], [.x 1 0x00002000]⟩,
   ⟨[0x06, 0x7F], [], 0x4000, 0x80, 0x0000, [], [.flags 0xFF 0x00]⟩,
   ⟨[0x04, 0x80], [], 0x4000, 0x00, 0x0000, [], [.flags 0xFF 0x80]⟩,
   ⟨[0x05, 0x01], [], 0x4000, 0x01, 0x0000, [], [.flags 0xFF 0x00]⟩,
   ⟨[0x00, 0x00], [], 0x1000, 0x80, 0x0000, [], [.pc 0x1002]⟩,
   ⟨[0x01, 0x80], [], 0x0500, 0x80, 0x0000, [], [.pc 0x0502, .asleep]⟩,
   ⟨[0x56, 0x70], [], 0x4000, 0x80, 0x0502, [], [.pc 0x0502, .flags 0xFF 0x00]⟩,
   ⟨[0x57, 0x10], [], 0x4000, 0x80, 0x0000, [], [.rejected]⟩] = true := by decide +kernel

/-! ### Witnesses: for each statement with hypotheses, states and operands that meet them, at the ends of their ranges -/

/-- The answer is a next state. -/
def answersNext : Answer → Bool
  | .next _ => true
  | _ => false

theorem exists_next_of_answersNext {o : Answer} (h : answersNext o = true) : ∃ t, o = .next t := by
  cases o with
  | next t => exact ⟨t, rfl⟩
  | fault _ => cases h
  | refused _ => cases h

theorem witness_reference_valid : Config.reference.valid = true := by decide +kernel

/-- Draws of construction. -/
def draws0 : BootDraws :=
  ⟨#v[1, 2, 3, 4, 5, 6, 7, 8], ⟨false, true, false, true, false, true, false, true⟩, 0x1234, 0x56, 0x78, [0x9A], ⟨1, 2, 3⟩⟩

theorem witness_ConstructionLoadsTheImages :
    (∃ s, State.construct Config.reference [0x12, 0x34] (some [0x56]) draws0 = some s)
      ∧ (∃ s, State.construct Config.reference [] none draws0 = some s)
      ∧ { Config.reference with lcdWidth := 0 }.valid = false :=
  ⟨⟨_, if_pos witness_reference_valid⟩, ⟨_, if_pos witness_reference_valid⟩, by decide +kernel⟩

theorem witness_RegisterViewsAlias : (0x8 : Sel).msb = true ∧ (0xF : Sel).msb = true ∧ (0x8 : Sel) ≠ 0xF := by decide

/-- A write of the counter's byte by the second byte of a half; bytes that leave the EEPROM selected and deselected. -/
theorem witness_FirmwareAccesses :
    0xFFC0 + BitVec.ofNat 16 1 = State.reset.cfg.io.tb1Cnt ∧ ¬ inRange 0xFFC2 2 State.reset.cfg.io.tb1Cnt
      ∧ someDeselects State.reset.cfg.io.csEeprom State.reset.cfg.csEepromActive 0xF0F0 [0x04]
      ∧ ¬ someDeselects State.reset.cfg.io.csEeprom State.reset.cfg.csEepromActive 0xF0F0 [0x03] := by
  refine ⟨by decide, by unfold inRange; decide, ⟨0, by decide, by decide, by decide⟩, ?_⟩
  rintro ⟨k, hk, -, h⟩
  simp only [List.length_singleton, Nat.lt_one_iff] at hk
  subst hk
  exact absurd h (by decide)

theorem witness_MixedWidthsAgree :
    noDataRegister State.reset.cfg.io 0xF780 2 ∧ noDataRegister State.reset.cfg.io 0xF0E5 4
      ∧ noDataRegister State.reset.cfg.io 0xFFFE 4 := by
  unfold noDataRegister inRange
  decide

theorem witness_StackRoundTrip :
    noDataRegister State.reset.cfg.io (eaPreDec State.reset 2 7) 2
      ∧ noDataRegister State.reset.cfg.io (eaPreDec (State.reset.setX 7 0xF780) 2 7) 2 := by
  unfold noDataRegister inRange
  decide

theorem witness_DecodeOfEncode :
    (Instr.movLDisp24 0xFFFFFF 7 0).wellFormed = true ∧ (Instr.bsr (.d16 0x8000)).wellFormed = true
      ∧ Instr.nop.wellFormed = true := by decide

theorem witness_DecodedBytesAreTheEncoding :
    decode [0x00, 0x00] = .ok .nop ∧ decode [0x01, 0x40, 0x6D, 0x90, 0xAA] = .ok (.stcWToPreDec 1) := ⟨rfl, rfl⟩

/-- The counter of a block move at its ends; a byte outside the two ranges that no hook changes. -/
theorem witness_BlockMoves :
    0 = (State.reset.get8 0xC).toNat ∧ 255 = ((State.reset.set8 0xC 0xFF).get8 0xC).toNat
      ∧ 0 = (State.reset.get16 4).toNat ∧ 65535 = ((State.reset.set16 4 0xFFFF).get16 4).toNat
      ∧ ¬ inRange 0x0000 255 0x00FF ∧ ¬ clearedByWrite State.reset.cfg.io 0x0000 255 0x00FF
      ∧ ¬ clearedByRead State.reset.cfg.io 0x0000 255 0x00FF := by
  unfold clearedByWrite clearedByRead inRange
  decide

/-- The hooks of copied bytes: the last of two falls on TB1_CNT, and the first of one just below it does not; a byte of
ones falls on the chip-selects, and one of zeros does not take them away. -/
theorem witness_BlockMoves_hooks :
    let s := State.reset.rawSet 0x0000 0xFF
    let bs (src dst : Addr) (n : Nat) := Image.copied s.cfg.io s.raw src dst n
    1 < (bs 0 0xFFC0 2).length ∧ (0xFFC0 : Addr) + BitVec.ofNat 16 1 = s.cfg.io.tb1Cnt
      ∧ ¬ inRange 0xFFC0 (bs 0 0xFFC0 1).length s.cfg.io.tb1Cnt
      ∧ someDeselects s.cfg.io.csEeprom s.cfg.csEepromActive 0xF0F0 (bs 0 0xF0F0 1)
      ∧ someDeselects s.cfg.io.csAccel s.cfg.csAccelActive 0xF0F0 (bs 0 0xF0F0 1)
      ∧ someDeselects s.cfg.io.csLcd s.cfg.csLcdActive 0xF0F0 (bs 0 0xF0F0 1)
      ∧ ∀ cs ∈ [s.cfg.io.csEeprom, s.cfg.io.csAccel, s.cfg.io.csLcd], ¬ someDeselects cs false 0xF0F0 (bs 1 0xF0F0 1) := by
  refine ⟨by decide +kernel, by decide, by unfold inRange; decide +kernel, ⟨0, by decide +kernel⟩, ⟨0, by decide +kernel⟩,
    ⟨0, by decide +kernel⟩, ?_⟩
  rintro cs hcs ⟨k, hk, -, hb⟩
  have h0 : k = 0 := Nat.lt_one_iff.mp hk
  subst h0
  revert cs
  decide +kernel

/-- `State.reset` with a byte register, C, H and Z as given. -/
def byteState (r : Sel) (v : Byte) (c h z : Bool) : State :=
  { State.reset.set8 r v with ccr := ⟨true, false, h, false, false, z, false, c⟩ }

theorem witness_AddxSubxResults :
    (1 = if (byteState 8 0xFF true false true).ccr.c then 1 else 0)
      ∧ (0 = if (byteState 8 0x00 false false true).ccr.c then 1 else 0)
      ∧ (Instr.addxReg 8 0 = .addxImm 0xFF 0 ∨ ∃ rs, Instr.addxReg 8 0 = .addxReg rs 0
          ∧ 0xFF = (byteState 8 0xFF true false true).get8 rs)
      ∧ (Instr.subxImm 0x80 0 = .subxImm 0x80 0 ∨ ∃ rs, Instr.subxImm 0x80 0 = .subxReg rs 0
          ∧ 0x80 = (byteState 8 0x00 false false true).get8 rs) :=
  ⟨by decide, by decide, .inr ⟨8, rfl, by decide⟩, .inl rfl⟩

/-- The upper corner of each row of the two tables: C, H and the byte. -/
theorem witness_DecimalAdjustResults :
    [(false, false, 0x99), (false, false, 0x8F), (false, true, 0x93), (false, false, 0xF9), (false, false, 0xFF),
      (false, true, 0xF3), (true, false, 0x29), (true, false, 0x2F), (true, true, 0x33), (false, true, 0x8F),
      (true, false, 0xF9), (true, true, 0xFF)].all (fun (e : Bool × Bool × Byte) =>
        let s := byteState 8 e.2.2 e.1 e.2.1 false
        s.get8 8 == e.2.2 && s.ccr.c == e.1 && s.ccr.h == e.2.1) = true := by decide

theorem witness_DecimalAdjustIsDecimalArithmetic :
    99 < 100 ∧ 0 < 100 ∧ ((State.reset.set8 8 0x99).set8 9 0x99).get8 8 = bcd 99
      ∧ ((State.reset.set8 8 0x99).set8 9 0x99).get8 9 = bcd 99 ∧ State.reset.get8 8 = bcd 0 := by decide

/-- ER0 and a byte of ER1: a dividend and a divisor. -/
def divState (dividend : Long) (divisor : Half) : State := (State.reset.set32 0 dividend).set16 1 divisor

/-- A quotient of 255, and one of 65535; and ones a step too large. -/
theorem witness_DivideUnsignedResults :
    let s := divState 0x00FF 0x0001
    (s.get8 9).toNat ≠ 0 ∧ (s.get16 0).toNat / (s.get8 9).toNat ≤ 255
      ∧ (let s := divState 0x0100 0x0001; ¬ (s.get16 0).toNat / (s.get8 9).toNat ≤ 255)
      ∧ (let s := divState 0xFFFF 0x0001; (s.get16 1).toNat ≠ 0 ∧ (s.get32 0).toNat / (s.get16 1).toNat ≤ 65535)
      ∧ (divState 0 0).get16 1 = 0 := by decide

/-- Quotients of -128, 127 and 0 of a byte, -32768, 32767 and 0 of a half, with the signs that the flag clause asks for:
the operands as numbers, and what the clauses ask of the numbers. -/
theorem witness_DivideSignedResults :
    (∀ e ∈ [((0x4000 : Long), (0x0080 : Half), (16384 : Int), (-128 : Int)), (0x007F, 0x0001, 127, 1),
        (0x0005, 0x0007, 5, 7), (0xFFFB, 0x00F9, -5, -7)],
      ((divState e.1 e.2.1).get16 0).toInt = e.2.2.1 ∧ ((divState e.1 e.2.1).get8 9).toInt = e.2.2.2)
    ∧ (∀ e ∈ [((16384 : Int), (-128 : Int)), (127, 1), (5, 7), (-5, -7)],
      e.2 ≠ 0 ∧ -128 ≤ e.1.tdiv e.2 ∧ e.1.tdiv e.2 ≤ 127 ∧ (e.1.tdiv e.2 ≠ 0 ∨ (e.1 < 0 ↔ e.2 < 0)))
    ∧ (∀ e ∈ [((0x40000000 : Long), (0x8000 : Half), (1073741824 : Int), (-32768 : Int)),
        (0x00007FFF, 0x0001, 32767, 1), (0xFFFFFFFB, 0xFFF9, -5, -7)],
      ((divState e.1 e.2.1).get32 0).toInt = e.2.2.1 ∧ ((divState e.1 e.2.1).get16 1).toInt = e.2.2.2)
    ∧ ∀ e ∈ [((1073741824 : Int), (-32768 : Int)), (32767, 1), (-5, -7)],
      e.2 ≠ 0 ∧ -32768 ≤ e.1.tdiv e.2 ∧ e.1.tdiv e.2 ≤ 32767 ∧ (e.1.tdiv e.2 ≠ 0 ∨ (e.1 < 0 ↔ e.2 < 0)) := by
  refine ⟨by decide, by simp, by decide, by simp⟩

/-- One form of each of the three widths of a logic instruction: an immediate, two registers, a complement. -/
theorem witness_LogicResults :
    (∃ imm, Instr.andBImm 0xF0 8 = .andBImm imm 8 ∧ State.reset.get8 8 &&& 0xF0 = State.reset.get8 8 &&& imm)
      ∧ (∃ rs, Instr.xorWReg 9 0 = .xorWReg rs 0 ∧ State.reset.get16 0 ^^^ State.reset.get16 9
          = State.reset.get16 0 ^^^ State.reset.get16 rs)
      ∧ (Instr.notL 7 = .notL 7 ∧ ~~~(State.reset.get32 7) = ~~~(State.reset.get32 7)) :=
  ⟨⟨0xF0, rfl, rfl⟩, ⟨9, rfl, rfl⟩, rfl, rfl⟩

theorem witness_LeftShiftResults :
    (Instr.shalB 8 = .shalB 8 ∧ false = false ∧ true = ((byteState 8 0x80 false false false).get8 8).getLsbD 7
        ^^ ((byteState 8 0x80 false false false).get8 8).getLsbD 6)
      ∧ (Instr.rotxlL 0 = .rotxlL 0 ∧ true = (byteState 8 0x80 true false false).ccr.c ∧ false = false) := by decide

theorem witness_RightShiftResults :
    (Instr.sharB 8 = .sharB 8 ∧ true = ((byteState 8 0x80 false false false).get8 8).getLsbD 7)
      ∧ (Instr.rotxrW 0 = .rotxrW 0 ∧ true = (byteState 8 0x80 true false false).ccr.c) := by decide

/-- A bit number from an immediate and one from a register; C stored. -/
theorem witness_BitWritesOfRegisters :
    (Instr.bnotImmReg 7 8 = .bnotImmReg 7 8 ∧ true = !(State.reset.get8 8).getLsbD 7)
      ∧ (∃ rn, (7 : BitVec 3).toNat = ((byteState 9 0xFF false false false).get8 rn).toNat % 8
          ∧ Instr.bsetRegReg 9 8 = .bsetRegReg rn 8)
      ∧ (Instr.bistReg 0 8 = .bistReg 0 8 ∧ true = !State.reset.ccr.c) :=
  ⟨by decide, ⟨9, by decide, rfl⟩, by decide⟩

theorem witness_BitWritesOfMemory :
    (∃ rd, (0x0000 : Addr) = eaInd State.reset rd ∧ Instr.bclrImmInd 0 1 = .bclrImmInd 0 rd)
      ∧ (∃ abs, (0xFFD4 : Addr) = eaAbs8 abs ∧ ∃ rn, (7 : BitVec 3).toNat
          = ((byteState 9 0xFF false false false).get8 rn).toNat % 8 ∧ Instr.bnotRegAbs8 9 0xD4 = .bnotRegAbs8 rn abs) :=
  ⟨⟨1, by decide, rfl⟩, ⟨0xD4, by decide, 9, by decide, rfl⟩⟩

theorem witness_BitReads : (7 : BitVec 3).toNat = ((byteState 9 0xFF false false false).get8 9).toNat % 8
    ∧ (0 : BitVec 3).toNat = ((byteState 9 0xF8 false false false).get8 9).toNat % 8 := by decide

/-- The conditions of the fourteen branches that have one. -/
def conditions (f : Ccr) : List Bool :=
  [!f.c && !f.z, f.c || f.z, !f.c, f.c, !f.z, f.z, !f.v, f.v, !f.n, f.n, f.n == f.v, f.n != f.v, !f.z && f.n == f.v,
    f.z || f.n != f.v]

/-- Each condition holds in one of these states, and fails in one. -/
theorem witness_ConditionalBranches : ∀ k : Fin 14, ∀ b,
    ∃ f ∈ [(⟨true, false, false, false, false, false, false, false⟩ : Ccr),
        ⟨true, false, false, false, true, true, true, true⟩, ⟨true, false, false, false, true, false, false, false⟩],
      (conditions f)[k.val]? = some b := by decide

theorem witness_NotAdmittedRaiseDecodeError :
    (∃ imm, Instr.trapa 3 = .trapa imm) ∧ (∃ abs rd, Instr.movfpe 0xFFFF 15 = .movfpe abs rd)
      ∧ (∃ rs abs, Instr.movtpe 0 0x0000 = .movtpe rs abs) ∧ ∀ imm, Instr.movfpe 0xFFFF 15 ≠ .trapa imm :=
  ⟨⟨_, rfl⟩, ⟨_, _, rfl⟩, ⟨_, _, rfl⟩, nofun⟩

theorem witness_InstructionFrame :
    Instr.nop ≠ .sleep ∧ Instr.nop.admitted = true ∧ Instr.nop.setsPc = false ∧ loadsCcr .nop = false := by decide

/-- `State.reset` with the instruction of these bits where the step fetches. -/
def fetching (nbits w : Nat) : State := State.reset.withFetchWord nbits w

theorem awake_fetching (nbits w : Nat) (h : (fetching nbits w).fault = none ∧ (fetching nbits w).runEnded = false
    ∧ (fetching nbits w).takeInputs.stopRequested = false ∧ (fetching nbits w).takeInputs.sleep = false) :
    (fetching nbits w).awake := ⟨⟨h.1, h.2.1⟩, h.2.2⟩

/-- An instruction that goes on, and one that ends Faulted; no key acknowledge and no patch at pc. -/
theorem witness_StepRunsInstruction :
    (fetching 16 0xF842).awake ∧ decode (fetching 16 0xF842).takeInputs.beforeDecode.fetch = .ok (.movBImm 0x42 8)
      ∧ (∃ t, exec (.movBImm 0x42 8) (fetching 16 0xF842).takeInputs.beforeDecode = .next t ∧ t.fault = none)
      ∧ decode (fetching 16 0x5710).takeInputs.beforeDecode.fetch = .ok (.trapa 1)
      ∧ (∃ t, exec (.trapa 1) (fetching 16 0x5710).takeInputs.beforeDecode = .next t ∧ t.fault ≠ none)
      ∧ (fetching 16 0xF842).takeInputs.pc ≠ (fetching 16 0xF842).cfg.keyAckPc
      ∧ ∀ e ∈ (fetching 16 0xF842).cfg.pcPatches, e.addr ≠ (fetching 16 0xF842).takeInputs.pc :=
  ⟨awake_fetching _ _ (by decide +kernel), by decide +kernel, ⟨_, rfl, by decide +kernel⟩, by decide +kernel,
    ⟨_, rfl, nofun⟩, by decide +kernel, by decide +kernel⟩

/-- Bytes of no row, and bytes of a row that is not admitted. -/
theorem witness_StepRejectsUndecodableBytes :
    (fetching 32 0x7C007000).awake
      ∧ (∀ i, decode (fetching 32 0x7C007000).takeInputs.beforeDecode.fetch = .ok i → i.admitted = false)
      ∧ (fetching 16 0x5710).awake
      ∧ (∀ i, decode (fetching 16 0x5710).takeInputs.beforeDecode.fetch = .ok i → i.admitted = false) := by
  have h₁ : (decode (fetching 32 0x7C007000).takeInputs.beforeDecode.fetch).isOk = false := by decide +kernel
  have h₂ : decode (fetching 16 0x5710).takeInputs.beforeDecode.fetch = .ok (.trapa 1) := by decide +kernel
  refine ⟨awake_fetching _ _ (by decide +kernel), fun i h => ?_, awake_fetching _ _ (by decide +kernel), fun i h => ?_⟩
  · rw [h] at h₁
    cases h₁
  · simp only [h₂, Except.ok.injEq] at h
    subst h
    rfl

theorem witness_RunEnds :
    { State.reset with fault := some ⟨.decodeError, none, 0, 0⟩ }.fault ≠ none
      ∧ { State.reset with inputs := [[.stop]] }.running
      ∧ { State.reset with inputs := [[.stop]] }.takeInputs.stopRequested = true
      ∧ { State.reset with runEnded := true }.runEnded = true :=
  ⟨nofun, ⟨rfl, rfl⟩, rfl, rfl⟩

theorem witness_StepKeepsInvariant : State.reset.inv = true ∧ ∃ t, step State.reset = .next t :=
  ⟨by decide +kernel, exists_next_of_answersNext (by decide +kernel)⟩

/-- The sleeping machine with I clear and these two bits set. -/
def sleepingWith (f g : BitLoc) : State :=
  { ((State.reset.setBit f true).setBit g true).setFlags (fun c => { c with i := false }) with sleep := true }

/-- I set, without inputs and with the wake key; I clear and the first or the last source pending and enabled. -/
theorem witness_SleepingSteps :
    (let s := { State.reset with sleep := true }
     s.running ∧ s.sleep = true ∧ s.ccr.i = true ∧ s.stopRequested = false ∧ ∀ batch ∈ s.inputs, HostInput.stop ∉ batch)
      ∧ (∀ batch ∈ [[HostInput.pushKey State.reset.cfg.wakeKey]], HostInput.stop ∉ batch)
      ∧ ∀ p ∈ [(State.reset.cfg.io.flagIrq0, State.reset.cfg.io.enIrq0),
          (State.reset.cfg.io.flagTb1, State.reset.cfg.io.enTb1)],
        let s := sleepingWith p.1 p.2
        s.running ∧ s.takeInputs.stopRequested = false ∧ s.takeInputs.sleep = true ∧ s.takeInputs.ccr.i = false
          ∧ s.takeInputs.bit p.1 = true ∧ s.takeInputs.bit p.2 = true := by
  unfold State.running
  decide +kernel

theorem witness_InterruptPriority :
    State.reset.ccr.i = true ∧ (byteState 0 0 false false false).setFlags (fun f => { f with i := false }) ≠ State.reset
      ∧ ((byteState 0 0 false false false).setFlags (fun f => { f with i := false })).ccr.i = false
      ∧ State.reset.wallQueue = []
      ∧ { State.reset with wallQueue := [⟨59, 59, 23, 99⟩] }.wallQueue = (⟨59, 59, 23, 99⟩ : WallClock) :: [] := by
  decide +kernel

/-- Timer B1 running, divisor 256, its counter as given. -/
def tb1State (cnt : Byte) : State := (State.reset.rawSet 0xFFC0 0x80).rawSet 0xFFC1 cnt

theorem witness_TimerB1Overflows :
    ∀ cnt ∈ [(0x00 : Byte), 0xFF], (tb1State cnt).cfg.valid = true ∧ (tb1State cnt).tb1Running = true
      ∧ (tb1State cnt).tb1Pre = 0
      ∧ (tb1State cnt).cfg.tb1Prescale.getD ((tb1State cnt).field (tb1State cnt).cfg.io.tb1Cks) none = some 256 := by
  decide +kernel

/-- Timer W running, divisor 4, its counter and GRA as given. -/
def twState (tcnt gra : Half) : State :=
  (((State.reset.rawSet 0xF010 0x01).rawSet 0xF013 0x01).rawSet16 0xF020 tcnt).rawSet16 0xF022 gra

/-- A match in one count, from 0 and from 65534. -/
theorem witness_TimerWMatches :
    (let s := twState 0x0000 0x0001
     s.cfg.valid = true ∧ s.twRunning = true ∧ s.twPre = 0 ∧ s.ccr.i = true
       ∧ s.cfg.twPrescale.getD (s.field s.cfg.io.twCks) none = some 4
       ∧ (s.raw16 s.cfg.io.twTcnt).toNat < (s.raw16 s.cfg.io.twGra).toNat)
      ∧ (let s := twState 0xFFFE 0xFFFF
         s.cfg.valid = true ∧ s.twRunning = true ∧ s.twPre = 0 ∧ s.ccr.i = true
           ∧ s.cfg.twPrescale.getD (s.field s.cfg.io.twCks) none = some 4
           ∧ (s.raw16 s.cfg.io.twTcnt).toNat < (s.raw16 s.cfg.io.twGra).toNat) := by decide +kernel

/-- An advancement that counts: a match, and a wrap. -/
theorem witness_TimerWCountsAndDelivers :
    let s := { twState 0x0004 0x0005 with twPre := 3 }
    let w := { twState 0xFFFF 0x0005 with twPre := 3 }
    s.cfg.valid = true ∧ s.twRunning = true ∧ 4 ≤ s.twPre + 1
      ∧ s.cfg.twPrescale.getD (s.field s.cfg.io.twCks) none = some 4
      ∧ s.raw16 s.cfg.io.twTcnt + 1 = s.raw16 s.cfg.io.twGra ∧ (s.raw16 s.cfg.io.twTcnt).toNat ≠ 65535
      ∧ w.twRunning = true ∧ w.cfg.twPrescale.getD (w.field w.cfg.io.twCks) none = some 4
      ∧ w.raw16 w.cfg.io.twTcnt + 1 ≠ w.raw16 w.cfg.io.twGra ∧ (w.raw16 w.cfg.io.twTcnt).toNat = 65535 := by
  decide +kernel

/-- Advancements that do not count, with a flag set and enabled, I clear and `TW_IRQ_LEVEL`: stopped, and not due. -/
theorem witness_TimerWDeliversByLevel :
    let lvl (u : State) : State :=
      let v := (u.setBit u.cfg.io.twImfa true).setBit u.cfg.io.twImiea true
      { v with cfg := { v.cfg with twIrqLevel := true }, ccr := { v.ccr with i := false } }
    (lvl State.reset).twRunning = false
      ∧ (let s := lvl { twState 0x0000 0x0005 with twPre := 2 }
         s.twRunning = true ∧ s.cfg.twPrescale.getD (s.field s.cfg.io.twCks) none = some 4 ∧ s.twPre + 1 < 4
           ∧ s.cfg.twIrqLevel = true ∧ s.ccr.i = false ∧ s.bit s.cfg.io.twImfa = true ∧ s.bit s.cfg.io.twImiea = true) := by
  decide +kernel

/-- Running timers whose code has no divisor, and stopped ones. -/
theorem witness_PrescaleFaultsAndHolds :
    let s := ((State.reset.rawSet 0xFFC0 0x82).rawSet 0xF010 0x01).rawSet 0xF013 0x07
    s.tb1Running = true ∧ s.cfg.tb1Prescale.getD (s.field s.cfg.io.tb1Cks) none = none
      ∧ s.twRunning = true ∧ s.cfg.twPrescale.getD (s.field s.cfg.io.twCks) none = none
      ∧ State.reset.tb1Running = false ∧ State.reset.twRunning = false ∧ State.reset.ccr.i = true
      ∧ State.reset.cfg.twIrqLevel = false := by decide +kernel

theorem witness_RtcTicks :
    let s := { State.reset with rtcInit := true, rtcQuarter := 1, wallQueue := [⟨59, 59, 23, 99⟩] }
    s.cfg.valid = true ∧ s.rtcInit = true ∧ State.reset.rtcInit = false := by decide +kernel

/-- The SSU on, with these chip-selects and this data/command pin, all low to be active but the pin. -/
def ssuState (combined : Bool) (port : Byte) : State :=
  (State.reset.rawSet 0xF0E2 (if combined then 0xC0 else 0x80)).rawSet 0xF0F0 port

theorem witness_EepromTakesBytes :
    (ssuState true 0x03).onEeprom true ∧ (ssuState false 0x03).onEeprom false
      ∧ (ssuState true 0x03).cfg.valid = true
      ∧ ∀ st ∈ [EepromState.waiting, .addrHigh, .addrLow, .readData, .writeData, .readStatus],
          let s := { ssuState true 0x03 with eep := ⟨st, .read, 0xFFFF, 1, 0, 0x00⟩ }
          s.onEeprom true ∧ s.eep.progress = 0 ∧ s.eep.state = st
            ∧ (0x05 : Byte) ∈ [s.cfg.eepCmdRead, s.cfg.eepCmdWrite, s.cfg.eepCmdWren, s.cfg.eepCmdRdsr]
            ∧ (0x00 : Byte) ∉ [s.cfg.eepCmdRead, s.cfg.eepCmdWrite, s.cfg.eepCmdWren, s.cfg.eepCmdRdsr] := by
  unfold State.onEeprom
  decide +kernel

theorem witness_EepromRoundTrip :
    (ssuState true 0x03).cfg.valid = true ∧ (ssuState true 0x03).onEeprom true
      ∧ (ssuState true 0x03).eep.state = .waiting ∧ (ssuState true 0x03).eep.progress = 0
      ∧ (0x7C : Byte).toNat % 128 ≤ 124 ∧ (0xFC : Byte).toNat % 128 ≤ 124 ∧ (0x00 : Byte).toNat % 128 ≤ 124 := by
  unfold State.onEeprom
  decide +kernel

/-- The last byte of the store, and the one past it. -/
theorem witness_AccelerometerTakesBytes :
    (ssuState true 0x06).onAccel true ∧ (ssuState false 0x06).onAccel false ∧ (ssuState true 0x06).cfg.valid = true
      ∧ (ssuState true 0x06).accMem.length = (ssuState true 0x06).cfg.accelSize
      ∧ (ssuState true 0x06).acc.state = .waiting
      ∧ (let s := { ssuState true 0x06 with acc := ⟨.data, 0x0F, 0⟩ }
         s.onAccel true ∧ s.acc.state = .data ∧ s.acc.address.toNat + s.acc.offset < s.cfg.accelSize)
      ∧ (let s := { ssuState false 0x06 with acc := ⟨.data, 0x0F, 1⟩ }
         s.onAccel false ∧ s.acc.state = .data ∧ s.cfg.accelSize ≤ s.acc.address.toNat + s.acc.offset) := by
  unfold State.onAccel
  decide +kernel

/-- The last byte of the framebuffer and the one past it; the command path in both of its states. -/
theorem witness_LcdTakesBytes :
    (let s := { ssuState false 0x0F with lcd := ⟨.waiting, 0, 7, 95, 1, 0⟩ }
     s.cfg.valid = true ∧ s.onLcd true ∧ s.lcd.progress = 0
       ∧ s.lcd.page.toNat * s.cfg.lcdWidth * 2 + s.lcd.column.toNat * 2 + s.lcd.offset.val
         < s.cfg.lcdPages * s.cfg.lcdWidth * 2)
      ∧ (let s := { ssuState false 0x0F with lcd := ⟨.waiting, 0, 8, 0, 0, 0⟩ }
         s.onLcd true ∧ s.cfg.lcdPages * s.cfg.lcdWidth * 2
           ≤ s.lcd.page.toNat * s.cfg.lcdWidth * 2 + s.lcd.column.toNat * 2 + s.lcd.offset.val)
      ∧ (ssuState false 0x05).onLcd false ∧ (ssuState false 0x05).lcd.state = .waiting
      ∧ (let s := { ssuState false 0x05 with lcd := ⟨.contrast, 0, 0, 0, 0, 0⟩ }
         s.onLcd false ∧ s.lcd.state = .contrast) := by
  unfold State.onLcd
  decide +kernel

/-- The transmitter off; on with nothing pending; on with a byte pending and no device selected, in the two modes. -/
theorem witness_SsuIdlesAndServesEverySelect :
    State.reset.bit State.reset.cfg.io.ssuTe = false
      ∧ (let s := (ssuState true 0x07).rawSet 0xF0E4 0x04
         s.bit s.cfg.io.ssuTe = true ∧ s.bit s.cfg.io.ssuTdre = true)
      ∧ (∀ combined, let s := ssuState combined 0x07
          s.bit s.cfg.io.ssuTe = true ∧ s.selected s.cfg.io.csAccel s.cfg.csAccelActive = false
            ∧ s.selected s.cfg.io.csEeprom s.cfg.csEepromActive = false
            ∧ (s.bit s.cfg.io.ssuRe = true ∨ (s.dcAsserted = false
                ∧ s.selected s.cfg.io.csLcd s.cfg.csLcdActive = false))) := by decide +kernel

/-- Two devices selected and a byte pending: both answer; the accelerometer answers alone; the EEPROM takes no byte yet and
the LCD controller takes none; the accelerometer is past its store; the data path is past the framebuffer. -/
theorem witness_SsuServesEverySelect :
    let both (combined : Bool) (port : Byte) (acc : Accel) (p : Fin 7) (lcd : Lcd) : State :=
      { ssuState combined port with acc := acc, eep := ⟨.readData, .read, 0, 0, p, 0⟩, lcd := lcd }
    let ok : Accel := ⟨.data, 0x0F, 0⟩
    let home : Lcd := ⟨.waiting, 0, 0, 0, 0, 0⟩
    (∀ s ∈ [both true 0x02 ok 6 home, both true 0x02 ok 5 home, both false 0x01 ok 0 home,
        both true 0x02 ⟨.data, 0x0F, 1⟩ 6 home, both false 0x0A ok 0 ⟨.waiting, 6, 8, 0, 0, 0⟩],
      s.cfg.valid = true ∧ s.fault = none ∧ s.ssuPending)
      ∧ (both true 0x02 ok 6 home).accelAnswers ∧ (both true 0x02 ok 6 home).eepromAnswers
      ∧ (both true 0x02 ok 5 home).accelAnswers ∧ ¬ (both true 0x02 ok 5 home).eepromAnswers
      ∧ (both true 0x02 ok 6 home).offEeprom.offLcd.ssuTick.bit State.reset.cfg.io.ssuTdre = true
      ∧ (both true 0x02 ok 6 home).offEeprom.offLcd.ssuTick.fault = none
      ∧ (both true 0x02 ok 6 home).offAccel.offEeprom.ssuTick.fault = none
      ∧ (let s := both false 0x01 ok 0 home
         s.offEeprom.offLcd.ssuTick.bit s.cfg.io.ssuTdre = false ∧ s.offAccel.offLcd.ssuTick.bit s.cfg.io.ssuTdre = false
           ∧ s.offAccel.offEeprom.ssuTick.bit s.cfg.io.ssuTdre = false)
      ∧ (both true 0x02 ⟨.data, 0x0F, 1⟩ 6 home).offEeprom.offLcd.ssuTick.fault ≠ none
      ∧ (let s := both false 0x0A ok 0 ⟨.waiting, 6, 8, 0, 0, 0⟩
         s.offEeprom.offLcd.ssuTick.fault = none ∧ s.offAccel.offEeprom.ssuTick.fault ≠ none) := by
  unfold State.ssuPending State.accelAnswers State.eepromAnswers
  decide +kernel

/-- SCI3 transmitting and receiving, with a byte in its queue; and off. -/
theorem witness_SciTicks :
    let s := { (State.reset.rawSet 0xF050 0x01).rawSet 0xF051 0x01 with irRx := [0xAA, 0x55] }
    s.cfg.valid = true ∧ s.bit s.cfg.io.sciTe = true ∧ s.bit s.cfg.io.sciTdre = false
      ∧ s.irRx = 0xAA :: [0x55] ∧ s.bit s.cfg.io.sciRe = true ∧ s.bit s.cfg.io.sciRdrf = false
      ∧ (s.rawSet 0xF052 0x01).bit s.cfg.io.sciTdre = true
      ∧ State.reset.bit State.reset.cfg.io.sciTe = false ∧ State.reset.irRx = [] := by decide +kernel

/-- A tick in which a timer faults, and a state that had faulted before; units due and not due; a tick on the display's
period and one off it; a tone, and silence; the two volumes. -/
theorem witness_TicksRunUnitsAndEmit :
    ((State.reset.rawSet 0xFFC0 0x82).tick 0).fault ≠ none
      ∧ { State.reset with fault := some ⟨.decodeError, none, 0, 0⟩ }.fault ≠ none
      ∧ State.reset.fault = none ∧ 1 % State.reset.cfg.timerPeriod ≠ 0 ∧ 0 % State.reset.cfg.timerPeriod = 0
      ∧ (State.reset.tick 0).fault = none ∧ 0 % State.reset.cfg.displayPeriod = 0
      ∧ (State.reset.tick 65535).fault = none ∧ 65535 % State.reset.cfg.displayPeriod ≠ 0
      ∧ (State.reset.tick 0).twRunning = false
      ∧ (let t := (twState 0x0000 0x0010).tick 0
         t.fault = none ∧ t.twRunning = true ∧ (t.raw16 t.cfg.io.twGra).toNat ≠ 0
           ∧ t.raw16 t.cfg.io.twGrb = t.raw16 t.cfg.io.twGrc)
      ∧ (let t := (State.reset.rawSet 0xF024 0x01).tick 0
         t.fault = none ∧ t.raw16 t.cfg.io.twGrb ≠ t.raw16 t.cfg.io.twGrc) := by decide +kernel

/-- The wake key with I clear; a key that wakes nothing; an input batch; pc at the acknowledge and not; a patch at pc,
behind one elsewhere and before one at the same address, with each width of write and with none; no patch at pc. -/
theorem witness_HostInputsAndKeys :
    (let s := State.reset.setFlags (fun f => { f with i := false })
     s.ccr.i = false ∧ 0x08 = s.cfg.wakeKey ∧ s.cfg.valid = true)
      ∧ State.reset.ccr.i = true ∧ 0x01 ≠ State.reset.cfg.wakeKey
      ∧ { State.reset with inputs := [[.pushKey 0x08], []] }.inputs = [.pushKey 0x08] :: [[]]
      ∧ (State.reset.setPc 0xFFFE).pc = (State.reset.setPc 0xFFFE).cfg.keyAckPc
      ∧ State.reset.pc ≠ State.reset.cfg.keyAckPc ∧ (∀ e ∈ State.reset.cfg.pcPatches, e.addr ≠ State.reset.pc)
      ∧ ∀ w ∈ [some (.byte 8 0x01), some (.half 8 0x0102), some (.long 7 0x01020304), none],
          let e : PcPatch := ⟨0x0000, -2, w⟩
          let s := { State.reset with cfg := { Config.reference with pcPatches := [⟨0x0002, 4, none⟩, e, ⟨0x0000, 6, none⟩] } }
          s.cfg.pcPatches = [⟨0x0002, 4, none⟩] ++ e :: [⟨0x0000, 6, none⟩]
            ∧ (∀ e' ∈ [(⟨0x0002, 4, none⟩ : PcPatch)], e'.addr ≠ s.pc) ∧ e.addr = s.pc ∧ e.write = w := by decide +kernel

end Sys2Proof.Machine
end

section
/-! SUPPORT. The flag functions of `Machine/Flags.lean` as facts of arithmetic, the CCR bit by bit, and what a write of a
register view with new flags answers; from these, the statements on the CCR, MOV between registers, ADD, SUB, NEG and
CMP. -/

namespace Sys2Proof.Machine

/-! ### The condition code register (`10_state.md` rules R120, R121) -/

/-- The bits of the packed CCR, from C up to I. -/
theorem Ccr.getLsbD_pack (f : Ccr) (k : Nat) :
    f.pack.getLsbD k = [f.c, f.v, f.z, f.n, f.u, f.h, f.ui, f.i].getD k false := by
  unfold Ccr.pack
  simp only [BitVec.getLsbD_append]
  match k with
  | 0 | 1 | 2 | 3 | 4 | 5 | 6 | 7 | k + 8 => simp

theorem Ccr.pack_ofByte (b : Byte) : (Ccr.ofByte b).pack = b := by
  apply BitVec.eq_of_getLsbD_eq
  intro k hk
  rw [Ccr.getLsbD_pack]
  interval_cases k <;> rfl

/-- Settles O4: each bit is one entry of `Ccr.getLsbD_pack`'s list. -/
theorem ccrPacksItsFlags : Obligations.CcrPacksItsFlags :=
  ⟨Ccr.pack_ofByte, fun f =>
    ⟨f.getLsbD_pack 7, f.getLsbD_pack 6, f.getLsbD_pack 5, f.getLsbD_pack 4,
      f.getLsbD_pack 3, f.getLsbD_pack 2, f.getLsbD_pack 1, f.getLsbD_pack 0⟩⟩

/-! ### N and Z of a result, and V as a signed overflow -/

theorem msb_iff_toInt_neg {n : Nat} (v : BitVec n) : v.msb = true ↔ v.toInt < 0 := by
  rw [BitVec.msb_eq_toInt, decide_eq_true_iff]

theorem beq_zero_iff_toNat {n : Nat} (v : BitVec n) : (v == 0) = true ↔ v.toNat = 0 := by
  simp [BitVec.toNat_eq]

/-- The sign formula of ADD's V: the operands have one sign and the sum has the other (`10_state.md` rule R133). -/
theorem addSigns_iff_outOfRange {n : Nat} (a b : BitVec n) :
    (~~~(a ^^^ b) &&& (a ^^^ (a + b))).msb = true ↔ outOfRange n (a.toInt + b.toInt) := by
  have signs : (~~~(a ^^^ b) &&& (a ^^^ (a + b))).msb = a.saddOverflow b := by
    rcases Nat.eq_zero_or_pos n with rfl | hn
    · simp [BitVec.saddOverflow_eq, BitVec.of_length_zero]
    · simp only [BitVec.saddOverflow_eq, BitVec.msb_and, BitVec.msb_not, BitVec.msb_xor, hn, decide_true,
        Bool.true_and]
      cases a.msb <;> cases b.msb <;> cases (a + b).msb <;> rfl
  rw [signs]
  simp [BitVec.saddOverflow, outOfRange, or_comm]

/-- The sign formula of SUB's V: the operands differ in sign, and so do the difference and the minuend (`10_state.md`
rule R134). -/
theorem subSigns_iff_outOfRange {n : Nat} (a b : BitVec n) :
    ((a ^^^ b) &&& (a ^^^ (a - b))).msb = true ↔ outOfRange n (a.toInt - b.toInt) := by
  have signs : ((a ^^^ b) &&& (a ^^^ (a - b))).msb = a.ssubOverflow b := by
    simp only [BitVec.ssubOverflow_eq, BitVec.msb_and, BitVec.msb_xor]
    cases a.msb <;> cases b.msb <;> cases (a - b).msb <;> rfl
  rw [signs]
  simp [BitVec.ssubOverflow, outOfRange, or_comm]

/-! ### The flag functions as facts of arithmetic (`10_state.md` rules R130, R133, R134) -/

theorem movFlags_moveFlagsAre {n : Nat} (v : BitVec n) (f : Ccr) : moveFlagsAre v f (movFlags v f) :=
  ⟨msb_iff_toInt_neg v, beq_zero_iff_toNat v, rfl, rfl⟩

theorem addFlags_addFlagsAre {n : Nat} (a b : BitVec n) (f : Ccr) : addFlagsAre a b f (addFlags a b f) :=
  ⟨msb_iff_toInt_neg _, beq_zero_iff_toNat _, addSigns_iff_outOfRange a b, decide_eq_true_iff, decide_eq_true_iff,
    rfl, rfl, rfl⟩

theorem subFlags_subFlagsAre {n : Nat} (a b : BitVec n) (f : Ccr) : subFlagsAre a b f (subFlags a b f) :=
  ⟨msb_iff_toInt_neg _, beq_zero_iff_toNat _, subSigns_iff_outOfRange a b, decide_eq_true_iff, decide_eq_true_iff,
    rfl, rfl, rfl⟩

/-! ### A write of a register view, then new flags -/

/-- A byte write leaves the views of the high halves (`10_state.md` rules R102, R103). -/
theorem State.get16_set8_of_msb (s : State) (r : Sel) (v : Byte) {q : Sel} (hq : q.msb = true) :
    (s.set8 r v).get16 q = s.get16 q := by
  simp only [State.get16, halfOf, hq, if_true, State.high_set8]

theorem onlyByte_set8 (s : State) (rd : Sel) (v : Byte) : onlyByte s (s.set8 rd v) rd :=
  ⟨fun q hq => by rw [State.get8_set8, if_neg hq], fun _ hq => s.get16_set8_of_msb rd v hq⟩

theorem onlyHalf_set16 (s : State) (rd : Sel) (v : Half) : onlyHalf s (s.set16 rd v) rd :=
  fun q hq => by rw [State.get16_set16, if_neg hq]

theorem onlyLong_set32 (s : State) (rd : ErSel) (v : Long) : onlyLong s (s.set32 rd v) rd :=
  fun _ hi => State.x_setX_of_ne s v (Ne.symm hi)

/-- The type of `answersByte`, `answersHalf` and `answersLong`: a state, an answer to it, the register written, its new
value, and what holds of the new flags. -/
abbrev AnswersAt (n : Nat) := State → Answer → BitVec 4 → BitVec n → (Ccr → Prop) → Prop

/-- A register write through the view `v`, then new flags, is an answer in the sense of `answers`: with it each
operation is proved once for the three widths. -/
def View.Answers {n : Nat} (v : View n) (answers : AnswersAt n) : Prop :=
  ∀ (s : State) (rd : BitVec 4) (val : BitVec n) (g : Ccr → Ccr) (flags : Ccr → Prop),
    flags (g s.ccr) → answers s (.next ((v.set s rd val).setFlags g)) rd val flags

theorem vB_answersByte : vB.Answers answersByte := fun s rd val _ _ hflags =>
  ⟨_, rfl, (State.get8_set8 s rd rd val).trans (if_pos rfl), onlyByte_set8 s rd val, hflags, rfl⟩

theorem vW_answersHalf : vW.Answers answersHalf := fun s rd val _ _ hflags =>
  ⟨_, rfl, (State.get16_set16 s rd rd val).trans (if_pos rfl), onlyHalf_set16 s rd val, hflags, rfl⟩

theorem vL_answersLong : vL.Answers answersLong := fun s rd val _ _ hflags =>
  ⟨_, rfl, (State.get32_set32 s rd rd val).trans (if_pos rfl), onlyLong_set32 s rd val, hflags, rfl⟩

/-! ### The operations, at any width -/

section
variable {n : Nat} {v : View n} {answers : AnswersAt n}

theorem View.Answers.moveTo (h : v.Answers answers) (s : State) (rd : BitVec 4) (val : BitVec n) :
    answers s (.next (moveTo v rd val s)) rd val (moveFlagsAre val s.ccr) :=
  h s rd _ _ _ (movFlags_moveFlagsAre _ _)

theorem View.Answers.addTo (h : v.Answers answers) (s : State) (rd : BitVec 4) (b : BitVec n) :
    answers s (.next (addTo v rd b s)) rd (v.get s rd + b) (addFlagsAre (v.get s rd) b s.ccr) :=
  h s rd _ _ _ (addFlags_addFlagsAre _ _ _)

theorem View.Answers.subFrom (h : v.Answers answers) (s : State) (rd : BitVec 4) (b : BitVec n) :
    answers s (.next (subFrom v rd b s)) rd (v.get s rd - b) (subFlagsAre (v.get s rd) b s.ccr) :=
  h s rd _ _ _ (subFlags_subFlagsAre _ _ _)

theorem View.Answers.negate (h : v.Answers answers) (s : State) (rd : BitVec 4) :
    answers s (.next (negate v rd s)) rd (0 - v.get s rd) (subFlagsAre 0 (v.get s rd) s.ccr) :=
  h s rd _ _ _ (subFlags_subFlagsAre _ _ _)

theorem compare_answersFlags (v : View n) (s : State) (rd : BitVec 4) (b : BitVec n) :
    answersFlags s (.next (compare v rd b s)) (subFlagsAre (v.get s rd) b s.ccr) :=
  ⟨_, rfl, subFlags_subFlagsAre _ _ _, rfl⟩

end

/-! ### The instructions -/

/-- Settles O11: each form is `moveTo` at its width, of a register or of the immediate. -/
theorem movRegisterAndImmediate : Obligations.MovRegisterAndImmediate := fun s =>
  ⟨fun rs rd => vB_answersByte.moveTo s rd (s.get8 rs),
    fun imm rd => vB_answersByte.moveTo s rd imm,
    fun rs rd => vW_answersHalf.moveTo s rd (s.get16 rs),
    fun imm rd => vW_answersHalf.moveTo s rd imm,
    fun rs rd => vL_answersLong.moveTo s rd (s.get32 rs),
    fun imm rd => vL_answersLong.moveTo s rd imm⟩

/-- Settles O17: each form is `addTo` at its width, of the immediate or of a register. -/
theorem addResults : Obligations.AddResults := fun s =>
  ⟨fun imm rd => vB_answersByte.addTo s rd imm,
    fun rs rd => vB_answersByte.addTo s rd (s.get8 rs),
    fun imm rd => vW_answersHalf.addTo s rd imm,
    fun rs rd => vW_answersHalf.addTo s rd (s.get16 rs),
    fun imm rd => vL_answersLong.addTo s rd imm,
    fun rs rd => vL_answersLong.addTo s rd (s.get32 rs)⟩

/-- Settles O18: SUB is `subFrom`, NEG is `negate` and CMP is `compare`, each at its width. -/
theorem subNegCmpResults : Obligations.SubNegCmpResults := fun s =>
  ⟨fun rs rd => vB_answersByte.subFrom s rd (s.get8 rs),
    fun imm rd => vW_answersHalf.subFrom s rd imm,
    fun rs rd => vW_answersHalf.subFrom s rd (s.get16 rs),
    fun imm rd => vL_answersLong.subFrom s rd imm,
    fun rs rd => vL_answersLong.subFrom s rd (s.get32 rs),
    fun rd => vB_answersByte.negate s rd,
    fun rd => vW_answersHalf.negate s rd,
    fun rd => vL_answersLong.negate s rd,
    fun imm rd => compare_answersFlags vB s rd imm,
    fun rs rd => compare_answersFlags vB s rd (s.get8 rs),
    fun imm rd => compare_answersFlags vW s rd imm,
    fun rs rd => compare_answersFlags vW s rd (s.get16 rs),
    fun imm rd => compare_answersFlags vL s rd imm,
    fun rs rd => compare_answersFlags vL s rd (s.get32 rs)⟩

end Sys2Proof.Machine
end

section
/-! SUPPORT. What the hooks of a run of writes do, by the two runs it is made of; the effect of firmware's accesses, whole;
and accesses and the stack away from the data registers. From these, the statements on firmware's accesses and the stack. -/

namespace Sys2Proof.Machine

/-! ### A run of bytes as two runs -/

theorem Addr.add_ofNat_add (a : Addr) (m k : Nat) :
    a + BitVec.ofNat 16 (m + k) = a + BitVec.ofNat 16 m + BitVec.ofNat 16 k := by
  rw [BitVec.ofNat_add, BitVec.add_assoc]

/-- The second of two runs that make one of at most 64 K bytes holds none of the first's addresses. -/
theorem not_inRange_second {a x : Addr} {m n : Nat} (hmn : m + n ≤ 65536) (hx : inRange a m x) :
    ¬ inRange (a + BitVec.ofNat 16 m) n x := by
  unfold inRange at *
  bv_omega

theorem inRange_append (a x : Addr) {m n : Nat} (hmn : m + n ≤ 65536) :
    inRange a (m + n) x ↔ inRange a m x ∨ inRange (a + BitVec.ofNat 16 m) n x := by
  unfold inRange
  bv_omega

theorem someDeselects_append (cs : BitLoc) (active : Bool) (a : Addr) (bs bs' : List Byte) :
    someDeselects cs active a (bs ++ bs')
      ↔ someDeselects cs active a bs ∨ someDeselects cs active (a + BitVec.ofNat 16 bs.length) bs' := by
  unfold someDeselects
  constructor
  · rintro ⟨k, hk, hak, hb⟩
    rw [List.length_append] at hk
    rcases Nat.lt_or_ge k bs.length with hlt | hge
    · exact .inl ⟨k, hlt, hak, by rwa [List.getD_append _ _ _ _ hlt] at hb⟩
    · obtain ⟨j, rfl⟩ := Nat.exists_eq_add_of_le hge
      rw [Addr.add_ofNat_add] at hak
      rw [List.getD_append_right _ _ _ _ hge, Nat.add_sub_cancel_left] at hb
      exact .inr ⟨j, by omega, hak, hb⟩
  · rintro (⟨k, hk, hak, hb⟩ | ⟨k, hk, hak, hb⟩)
    · exact ⟨k, by rw [List.length_append]; omega, hak, by rwa [List.getD_append _ _ _ _ hk]⟩
    · refine ⟨bs.length + k, by rw [List.length_append]; omega, by rwa [Addr.add_ofNat_add], ?_⟩
      rwa [List.getD_append_right _ _ _ _ (Nat.le_add_right ..), Nat.add_sub_cancel_left]

theorem someDeselects_singleton (cs : BitLoc) (active : Bool) (a : Addr) (b : Byte) :
    someDeselects cs active a [b] ↔ deselects cs active a b = true := by
  simp [someDeselects, deselects]

/-! ### The hooks of writes -/

/-- A device whose protocol one run resets just where `p` holds, and the next run just where `q` does, is reset once by
the two where `p ∨ q`: a second reset changes nothing more (`60_exceptions.md` rule R1237). -/
theorem reset_or {D : Type} {reset : D → D} (idem : ∀ d, reset (reset d) = reset d) {p q : Prop} {d₀ d₁ d₂ : D}
    (h₁ : (p → d₁ = reset d₀) ∧ (¬ p → d₁ = d₀)) (h₂ : (q → d₂ = reset d₁) ∧ (¬ q → d₂ = d₁)) :
    (p ∨ q → d₂ = reset d₀) ∧ (¬ (p ∨ q) → d₂ = d₀) := by
  obtain ⟨reset₁, kept₁⟩ := h₁
  obtain ⟨reset₂, kept₂⟩ := h₂
  refine ⟨fun hpq => ?_, fun hpq => ?_⟩
  · by_cases hq : q
    · by_cases hp : p
      · rw [reset₂ hq, reset₁ hp, idem]
      · rw [reset₂ hq, kept₁ hp]
    · rw [kept₂ hq, reset₁ (hpq.resolve_right hq)]
  · rw [not_or] at hpq
    rw [kept₂ hpq.2, kept₁ hpq.1]

/-- The hooks of one byte's write (`20_memory.md` rule R211). -/
theorem State.hookEffect_store8 (s : State) (a : Addr) (b : Byte) : HookEffect s (s.store8 a b) a [b] where
  latched k hk hak := by
    obtain rfl : k = 0 := by simpa using hk
    exact if_pos (by simpa using hak)
  notLatched h := if_neg fun ha => h ((inRange_one ..).2 ha.symm)
  eepReset h := if_pos ((someDeselects_singleton ..).1 h)
  eepKept h := if_neg fun hd => h ((someDeselects_singleton ..).2 hd)
  accReset h := if_pos ((someDeselects_singleton ..).1 h)
  accKept h := if_neg fun hd => h ((someDeselects_singleton ..).2 hd)
  lcdReset h := if_pos ((someDeselects_singleton ..).1 h)
  lcdKept h := if_neg fun hd => h ((someDeselects_singleton ..).2 hd)

/-- The hooks of a run of writes are those of its first part, then those of the rest. -/
theorem HookEffect.append {s m t : State} {a : Addr} {bs bs' : List Byte} (hlen : bs.length + bs'.length ≤ 65536)
    (hcfg : m.cfg = s.cfg) (h₁ : HookEffect s m a bs) (h₂ : HookEffect m t (a + BitVec.ofNat 16 bs.length) bs') :
    HookEffect s t a (bs ++ bs') := by
  obtain ⟨latched₂, notLatched₂, eepReset₂, eepKept₂, accReset₂, accKept₂, lcdReset₂, lcdKept₂⟩ := h₂
  rw [hcfg] at latched₂ notLatched₂ eepReset₂ eepKept₂ accReset₂ accKept₂ lcdReset₂ lcdKept₂
  have eep := reset_or (reset := Eeprom.protocolReset) (fun _ => rfl) ⟨h₁.eepReset, h₁.eepKept⟩ ⟨eepReset₂, eepKept₂⟩
  have acc := reset_or (reset := Accel.protocolReset) (fun _ => rfl) ⟨h₁.accReset, h₁.accKept⟩ ⟨accReset₂, accKept₂⟩
  have lcd := reset_or (reset := Lcd.protocolReset) (fun _ => rfl) ⟨h₁.lcdReset, h₁.lcdKept⟩ ⟨lcdReset₂, lcdKept₂⟩
  rw [← someDeselects_append] at eep acc lcd
  refine ⟨fun k hk hak => ?_, fun h => ?_, eep.1, eep.2, acc.1, acc.2, lcd.1, lcd.2⟩
  · rw [List.length_append] at hk
    rcases Nat.lt_or_ge k bs.length with hlt | hge
    · have first : inRange a bs.length s.cfg.io.tb1Cnt := (inRange_iff _ _ (by omega) _).2 ⟨k, hlt, hak⟩
      rw [List.getD_append _ _ _ _ hlt, notLatched₂ (not_inRange_second hlen first), h₁.latched k hlt hak]
    · obtain ⟨j, rfl⟩ := Nat.exists_eq_add_of_le hge
      rw [List.getD_append_right _ _ _ _ hge, Nat.add_sub_cancel_left]
      exact latched₂ j (by omega) (by rwa [Addr.add_ofNat_add] at hak)
  · rw [List.length_append, inRange_append _ _ hlen, not_or] at h
    rw [notLatched₂ h.2, h₁.notLatched h.1]

theorem State.hookEffect_store16 (s : State) (a : Addr) (v : Half) : HookEffect s (s.store16 a v) a (bytes16 v) :=
  (s.hookEffect_store8 a _).append (by simp) (s.store8_cfg ..) (State.hookEffect_store8 ..)

/-- A byte of a longword's upper half is the longword's, 16 bits up. -/
theorem extractLsb'_upper_half (v : Long) {start : Nat} (h : start + 8 ≤ 16) :
    (v.extractLsb' 16 16).extractLsb' start 8 = v.extractLsb' (16 + start) 8 := by
  apply BitVec.eq_of_getLsbD_eq
  intro i hi
  simp only [BitVec.getLsbD_extractLsb', show start + i < 16 by omega, decide_true, Bool.true_and, Nat.add_assoc]

/-- The bytes of a longword are those of its halves, the upper one first (`20_memory.md` rule R204). -/
theorem bytes32_eq_halves (v : Long) : bytes32 v = bytes16 (v.extractLsb' 16 16) ++ bytes16 (v.extractLsb' 0 16) := by
  simp [bytes16, bytes32, extractLsb'_upper_half]

theorem State.hookEffect_store32 (s : State) (a : Addr) (v : Long) : HookEffect s (s.store32 a v) a (bytes32 v) := by
  rw [bytes32_eq_halves]
  exact (s.hookEffect_store16 a _).append (by simp [bytes16]) (s.store16_cfg ..) (State.hookEffect_store16 ..)

/-! ### The effect of an access, whole -/

/-- A write's effect is its hooks' and its image: the bytes that stay follow. -/
theorem HookEffect.writeEffect {s t : State} {a : Addr} {bs : List Byte} (h : HookEffect s t a bs)
    (hlen : bs.length < 65536) (image : t.raw = Image.writes s.cfg.io s.raw a bs) : WriteEffect s t a bs :=
  { h with
    image := congrFun image
    others := fun _ hx hc => image ▸ Image.writes_other _ _ _ _ hlen hx hc }

theorem readEffect_of_image {s t : State} {a : Addr} {n : Nat} (hn : n < 65536)
    (image : t.raw = (Image.reads s.cfg.io s.raw a n).2) : ReadEffect s t a n where
  image := congrFun image
  others _ hc := image ▸ Image.reads_other _ _ _ _ hn hc

theorem State.writeEffect_store8 (s : State) (a : Addr) (v : Byte) : WriteEffect s (s.store8 a v) a [v] :=
  (s.hookEffect_store8 a v).writeEffect (by simp) (s.image_store8 a v)
theorem State.writeEffect_store16 (s : State) (a : Addr) (v : Half) : WriteEffect s (s.store16 a v) a (bytes16 v) :=
  (s.hookEffect_store16 a v).writeEffect (by simp [bytes16]) (s.image_store16 a v)
theorem State.writeEffect_store32 (s : State) (a : Addr) (v : Long) : WriteEffect s (s.store32 a v) a (bytes32 v) :=
  (s.hookEffect_store32 a v).writeEffect (by simp [bytes32]) (s.image_store32 a v)

theorem State.readEffect_load8 (s : State) (a : Addr) : ReadEffect s (s.load8 a).2 a 1 :=
  readEffect_of_image (by decide) (s.image_load8 a)
theorem State.readEffect_load16 (s : State) (a : Addr) : ReadEffect s (s.load16 a).2 a 2 :=
  readEffect_of_image (by decide) (s.image_load16 a)
theorem State.readEffect_load32 (s : State) (a : Addr) : ReadEffect s (s.load32 a).2 a 4 :=
  readEffect_of_image (by decide) (s.image_load32 a)

theorem bigEndian_bytes32 (v : Long) : bigEndian (bytes32 v) = v.toNat := by
  rw [bytes32_eq_halves]
  show bigEndian [_, _, _, _] = _
  rw [bigEndian_four, half_join, half_join, long_join]

/-- Settles O5: each access by its effect, its frame and, for a load, its value. -/
theorem firmwareAccesses : Obligations.FirmwareAccesses := fun s a =>
  ⟨fun v => ⟨s.writeEffect_store8 a v, s.onlyStored_store8 a v⟩,
    fun v => ⟨s.writeEffect_store16 a v, s.onlyStored_store16 a v⟩,
    fun v => ⟨s.writeEffect_store32 a v, s.onlyStored_store32 a v⟩,
    ⟨s.load8_value a, s.readEffect_load8 a, s.onlyLoaded_load8 a⟩,
    ⟨s.load16_value a, s.readEffect_load16 a, s.onlyLoaded_load16 a⟩,
    ⟨s.load32_value a, s.readEffect_load32 a, s.onlyLoaded_load32 a⟩,
    bigEndian_bytes32⟩

/-! ### Accesses away from the data registers -/

theorem noDataRegister_succ {n : Nat} (hn : n < 65536) (io : IoMap) (a : Addr) :
    noDataRegister io a (n + 1) ↔ noDataRegister io a 1 ∧ noDataRegister io (a + 1) n := by
  simp only [noDataRegister, inRange_succ hn, inRange_one]
  tauto

theorem Image.write_of_noDataRegister {io : IoMap} {a : Addr} (h : noDataRegister io a 1) (m : Image) (b : Byte) :
    m.write io a b = m.put a b := by
  simp only [noDataRegister, inRange_one] at h
  obtain ⟨hssu, hsci, -, -⟩ := h
  simp only [Image.write, if_neg (Ne.symm hssu), if_neg (Ne.symm hsci)]

theorem Image.read_of_noDataRegister {io : IoMap} {a : Addr} (h : noDataRegister io a 1) (m : Image) :
    m.read io a = m := by
  simp only [noDataRegister, inRange_one] at h
  obtain ⟨-, -, hssu, hsci⟩ := h
  simp only [Image.read, if_neg (Ne.symm hssu), if_neg (Ne.symm hsci)]

theorem Image.put_self (m : Image) (a : Addr) (b : Byte) : m.put a b a = b := if_pos rfl

/-- A half stored away from the data registers is there after (`20_memory.md` rule R204). -/
theorem State.raw16_store16 {s : State} {a : Addr} (h : noDataRegister s.cfg.io a 2) (v : Half) :
    (s.store16 a v).raw16 a = v := by
  obtain ⟨h₀, h₁⟩ := (noDataRegister_succ (by decide) ..).1 h
  have image : (s.store16 a v).raw
      = Image.put (Image.put s.raw a (v.extractLsb' 8 8)) (a + 1) (v.extractLsb' 0 8) := by
    rw [State.image_store16]
    simp only [bytes16, Image.writes]
    rw [Image.write_of_noDataRegister h₀, Image.write_of_noDataRegister h₁]
  have ne : a ≠ a + 1 := by bv_omega
  rw [State.raw16, image, Image.put_self, Image.put_of_ne _ _ ne, Image.put_self, half_join]

/-- A half loaded away from the data registers is the pair in memory: the first byte's hook changes nothing. -/
theorem State.load16_eq_raw16 {s : State} {a : Addr} (h : noDataRegister s.cfg.io a 2) :
    (s.load16 a).1 = s.raw16 a := by
  obtain ⟨h₀, -⟩ := (noDataRegister_succ (by decide) ..).1 h
  show s.raw a ++ (s.readHook a).raw (a + 1) = s.raw16 a
  rw [State.image_readHook, Image.read_of_noDataRegister h₀, State.raw16]

/-! ### The stack (`20_memory.md` rule R220) -/

theorem State.push16_eq_store16 (s : State) (v : Half) :
    s.push16 v = (s.setX 7 (s.x 7 - 2)).store16 (eaPreDec s 2 7) v := by
  show (s.setX 7 (s.x 7 - 2)).store16 (((s.setX 7 (s.x 7 - 2)).x 7).setWidth 16) v = _
  rw [State.x_setX_self]
  rfl

theorem State.x_push16 (s : State) (v : Half) (i : Fin 8) :
    (s.push16 v).x i = if 7 = i then s.x 7 - 2 else s.x i := by
  rw [State.push16_eq_store16, State.store16_x, State.x_setX]

theorem State.pop16_value (s : State) : s.pop16.1 = (s.load16 ((s.x 7).setWidth 16)).1 := rfl

theorem State.x_pop16 (s : State) (i : Fin 8) : s.pop16.2.x i = if 7 = i then s.x 7 + 2 else s.x i := by
  show ((s.load16 _).2.setX 7 ((s.load16 _).2.x 7 + 2)).x i = _
  rw [State.x_setX, State.load16_x, State.load16_x]

/-- Settles O7: the pop loads from where the push stored, and 2 added to ER7 undoes the 2 taken away. -/
theorem stackRoundTrip : Obligations.StackRoundTrip := by
  intro s v h
  have sp : (s.push16 v).x 7 = s.x 7 - 2 := by rw [State.x_push16, if_pos rfl]
  have stored : (s.push16 v).raw16 (eaPreDec s 2 7) = v := by
    rw [State.push16_eq_store16]
    exact State.raw16_store16 h v
  refine ⟨sp, stored, ?_, fun i => ?_⟩
  · calc (s.push16 v).pop16.1 = ((s.push16 v).load16 (eaPreDec s 2 7)).1 := by rw [State.pop16_value, sp]; rfl
      _ = (s.push16 v).raw16 (eaPreDec s 2 7) := State.load16_eq_raw16 (by rwa [State.push16_cfg])
      _ = v := stored
  · rw [State.x_pop16, sp, BitVec.sub_add_cancel, State.x_push16]
    split
    · subst_vars; rfl
    · rfl

end Sys2Proof.Machine
end

section
/-! SUPPORT. The first dispatch key of an instruction's own bytes, and what an instruction that is not admitted answers; from
these, the statement on TRAPA, MOVFPE and MOVTPE. -/

namespace Sys2Proof.Machine

/-- The first key holds the nibbles of the first byte (`30_encoding.md` rule R322). -/
theorem keysOf_k1_of_encode {i : Instr} {h l : BitVec 4} {bs : List Byte} (henc : encode i = nb h l :: bs) :
    (keysOf i).k1 = (h, l) := by
  have first : (keysOf i).k1 = (hiNib ((encode i).getD 0 0), loNib ((encode i).getD 0 0)) := rfl
  rw [first, henc, List.getD_cons_zero, hiNib_nb, loNib_nb]

theorem keysOf_k1_trapa (imm : BitVec 2) : (keysOf (.trapa imm)).k1 = (5, 7) :=
  keysOf_k1_of_encode (h := 5) (l := 7) rfl

theorem keysOf_k1_movfpe (abs : BitVec 16) (rd : Sel) : (keysOf (.movfpe abs rd)).k1 = (6, 10) :=
  keysOf_k1_of_encode (h := 6) (l := 10) rfl

theorem keysOf_k1_movtpe (rs : Sel) (abs : BitVec 16) : (keysOf (.movtpe rs abs)).k1 = (6, 10) :=
  keysOf_k1_of_encode (h := 6) (l := 10) rfl

theorem notAdmitted_eq (i : Instr) (s : State) :
    notAdmitted i s = { s with fault := some ⟨.decodeError, some (keysOf i), s.instrCount, s.pc⟩ } := rfl

theorem exec_trapa (imm : BitVec 2) (s : State) : exec (.trapa imm) s = .next (notAdmitted (.trapa imm) s) := rfl

theorem exec_movfpe (abs : BitVec 16) (rd : Sel) (s : State) :
    exec (.movfpe abs rd) s = .next (notAdmitted (.movfpe abs rd) s) := rfl

theorem exec_movtpe (rs : Sel) (abs : BitVec 16) (s : State) :
    exec (.movtpe rs abs) s = .next (notAdmitted (.movtpe rs abs) s) := rfl

/-- Settles O39: each of the three answers `notAdmitted`, with the keys of its own bytes. -/
theorem notAdmittedRaiseDecodeError : Obligations.NotAdmittedRaiseDecodeError := by
  rintro s i (⟨imm, rfl⟩ | ⟨abs, rd, rfl⟩ | ⟨rs, abs, rfl⟩)
  case inl =>
    refine ⟨keysOf (.trapa imm), ?_, fun _ _ => keysOf_k1_trapa imm, fun h => absurd rfl (h imm)⟩
    rw [exec_trapa, notAdmitted_eq]
  case inr.inl =>
    refine ⟨keysOf (.movfpe abs rd), ?_, nofun, fun _ => keysOf_k1_movfpe abs rd⟩
    rw [exec_movfpe, notAdmitted_eq]
  case inr.inr =>
    refine ⟨keysOf (.movtpe rs abs), ?_, nofun, fun _ => keysOf_k1_movtpe rs abs⟩
    rw [exec_movtpe, notAdmitted_eq]

end Sys2Proof.Machine
end

section
/-! SUPPORT. V of a step by a constant as a signed overflow, and the flags and the answer of a step at any width; from
these, the statement on ADDS, SUBS, INC and DEC. -/

namespace Sys2Proof.Machine

/-! ### A small constant at any width -/

theorem toInt_one_of_lt {n : Nat} (hn : 2 < n) : (1 : BitVec n).toInt = 1 := BitVec.toInt_one (by omega)

theorem toNat_two_of_lt {n : Nat} (hn : 2 < n) : (2 : BitVec n).toNat = 2 :=
  have fits : 2 ^ 1 < 2 ^ n := Nat.pow_lt_pow_right (by decide) (by omega)
  Nat.mod_eq_of_lt fits

theorem toInt_two_of_lt {n : Nat} (hn : 2 < n) : (2 : BitVec n).toInt = 2 := by
  have : 2 ^ 3 ≤ 2 ^ n := Nat.pow_le_pow_right (by decide) hn
  rw [BitVec.toInt_eq_toNat_of_lt, toNat_two_of_lt hn]
  · rfl
  · rw [toNat_two_of_lt hn]; omega

theorem msb_two_of_lt {n : Nat} (hn : 2 < n) : (2 : BitVec n).msb = false := by
  rw [BitVec.msb_eq_toInt, toInt_two_of_lt hn]; rfl

/-! ### V of a step: by one at the end of the range, by two from the sign it changes -/

theorem eq_intMax_iff_outOfRange {n : Nat} (v : BitVec n) :
    (v == BitVec.intMax n) = true ↔ outOfRange n (v.toInt + 1) := by
  have upper : v.toInt < 2 ^ (n - 1) := BitVec.toInt_lt
  have lower : -2 ^ (n - 1) ≤ v.toInt := v.le_toInt
  rw [beq_iff_eq, ← BitVec.toInt_inj, BitVec.toInt_intMax, outOfRange]
  omega

theorem eq_intMin_iff_outOfRange {n : Nat} (hn : 0 < n) (v : BitVec n) :
    (v == BitVec.intMin n) = true ↔ outOfRange n (v.toInt - 1) := by
  have upper : v.toInt < 2 ^ (n - 1) := BitVec.toInt_lt
  have lower : -2 ^ (n - 1) ≤ v.toInt := v.le_toInt
  rw [beq_iff_eq, ← BitVec.toInt_inj, BitVec.toInt_intMin_of_pos hn, outOfRange]
  omega

/-- Adding a number that is not negative overflows exactly when the sign goes from + to - (rule R508). -/
theorem risingSign_iff_outOfRange {n : Nat} (hn : 0 < n) (v : BitVec n) {b : BitVec n} (hb : b.msb = false) :
    (!v.msb && (v + b).msb) = true ↔ outOfRange n (v.toInt + b.toInt) := by
  rw [← addSigns_iff_outOfRange]
  cases hv : v.msb <;> simp [hv, hb, hn]

/-- Subtracting a number that is not negative overflows exactly when the sign goes from - to + (rule R508). -/
theorem fallingSign_iff_outOfRange {n : Nat} (v : BitVec n) {b : BitVec n} (hb : b.msb = false) :
    (v.msb && !(v - b).msb) = true ↔ outOfRange n (v.toInt - b.toInt) := by
  rw [← subSigns_iff_outOfRange]
  cases hv : v.msb <;> simp [hv, hb]

/-! ### The flag functions as facts of arithmetic (`10_state.md` rules R131, R132; `41_arithmetic.md` rule R508) -/

theorem stepFlagsAre_of_toInt {n : Nat} (v : BitVec n) {r : BitVec n} {k : Int} {overflow : Bool} (f : Ccr)
    (hr : r = BitVec.ofInt n (v.toInt + k)) (hv : overflow = true ↔ outOfRange n (v.toInt + k)) :
    stepFlagsAre v k f { f with n := r.msb, z := r == 0, v := overflow } := by
  subst hr
  exact ⟨msb_iff_toInt_neg _, beq_zero_iff_toNat _, hv, rfl⟩

theorem add_eq_ofInt {n : Nat} (v b : BitVec n) : v + b = BitVec.ofInt n (v.toInt + b.toInt) := by
  rw [BitVec.ofInt_add, BitVec.ofInt_toInt, BitVec.ofInt_toInt]

theorem sub_eq_ofInt {n : Nat} (v b : BitVec n) : v - b = BitVec.ofInt n (v.toInt + -b.toInt) := by
  rw [BitVec.ofInt_add, BitVec.ofInt_neg, BitVec.ofInt_toInt, BitVec.ofInt_toInt, BitVec.sub_eq_add_neg]

section
variable {n : Nat}

theorem incFlags_stepFlagsAre (hn : 2 < n) (v : BitVec n) (f : Ccr) : stepFlagsAre v 1 f (incFlags v f) :=
  stepFlagsAre_of_toInt v f (by rw [add_eq_ofInt, toInt_one_of_lt hn]) (eq_intMax_iff_outOfRange v)

theorem decFlags_stepFlagsAre (hn : 2 < n) (v : BitVec n) (f : Ccr) : stepFlagsAre v (-1) f (decFlags v f) :=
  stepFlagsAre_of_toInt v f (by rw [sub_eq_ofInt, toInt_one_of_lt hn]) (eq_intMin_iff_outOfRange (by omega) v)

theorem inc2Flags_stepFlagsAre (hn : 2 < n) (v : BitVec n) (f : Ccr) : stepFlagsAre v 2 f (inc2Flags v f) :=
  stepFlagsAre_of_toInt v f (by rw [add_eq_ofInt, toInt_two_of_lt hn])
    (toInt_two_of_lt hn ▸ risingSign_iff_outOfRange (by omega) v (msb_two_of_lt hn))

theorem dec2Flags_stepFlagsAre (hn : 2 < n) (v : BitVec n) (f : Ccr) : stepFlagsAre v (-2) f (dec2Flags v f) :=
  stepFlagsAre_of_toInt v f (by rw [sub_eq_ofInt, toInt_two_of_lt hn])
    (toInt_two_of_lt hn ▸ fallingSign_iff_outOfRange v (msb_two_of_lt hn))

end

/-! ### The steps, at any width -/

section
variable {n : Nat} {v : View n} {answers : AnswersAt n} {flags : BitVec n → Ccr → Ccr} {k : Int}

theorem View.Answers.stepUp (h : v.Answers answers) (hflags : ∀ a f, stepFlagsAre a k f (flags a f)) (b : BitVec n)
    (s : State) (rd : BitVec 4) :
    answers s (.next (stepBy v rd flags b s)) rd (v.get s rd + b) (stepFlagsAre (v.get s rd) k s.ccr) :=
  h s rd _ _ _ (hflags _ _)

theorem View.Answers.stepDown (h : v.Answers answers) (hflags : ∀ a f, stepFlagsAre a k f (flags a f)) (b : BitVec n)
    (s : State) (rd : BitVec 4) :
    answers s (.next (stepBy v rd flags (-b) s)) rd (v.get s rd - b) (stepFlagsAre (v.get s rd) k s.ccr) :=
  BitVec.sub_eq_add_neg _ b ▸ h.stepUp hflags (-b) s rd

end

/-- A longword write that leaves the flags: ADDS and SUBS (`41_arithmetic.md` rules R514, R523). -/
theorem answersLong_set32 (s : State) (rd : ErSel) (val : Long) :
    answersLong s (.next (s.set32 rd val)) rd val (· = s.ccr) :=
  vL_answersLong s rd val id _ rfl

/-! ### The instructions -/

/-- Settles O20: ADDS and SUBS are a register write, INC and DEC are `stepBy` at their width with the flags of their
constant. -/
theorem constantStepResults : Obligations.ConstantStepResults := fun s =>
  ⟨fun rd => answersLong_set32 s rd (s.get32 rd + 1),
    fun rd => answersLong_set32 s rd (s.get32 rd + 2),
    fun rd => answersLong_set32 s rd (s.get32 rd + 4),
    fun rd => answersLong_set32 s rd (s.get32 rd - 1),
    fun rd => answersLong_set32 s rd (s.get32 rd - 2),
    fun rd => answersLong_set32 s rd (s.get32 rd - 4),
    vB_answersByte.stepUp (incFlags_stepFlagsAre (by decide)) 1 s,
    vW_answersHalf.stepUp (incFlags_stepFlagsAre (by decide)) 1 s,
    vW_answersHalf.stepUp (inc2Flags_stepFlagsAre (by decide)) 2 s,
    vL_answersLong.stepUp (incFlags_stepFlagsAre (by decide)) 1 s,
    vL_answersLong.stepUp (inc2Flags_stepFlagsAre (by decide)) 2 s,
    vB_answersByte.stepDown (decFlags_stepFlagsAre (by decide)) 1 s,
    vW_answersHalf.stepDown (decFlags_stepFlagsAre (by decide)) 1 s,
    vW_answersHalf.stepDown (dec2Flags_stepFlagsAre (by decide)) 2 s,
    vL_answersLong.stepDown (decFlags_stepFlagsAre (by decide)) 1 s,
    vL_answersLong.stepDown (dec2Flags_stepFlagsAre (by decide)) 2 s⟩

end Sys2Proof.Machine
end

section
/-! SUPPORT. The answer of a bitwise operation and of a complement at any width; from these, the statement on AND, OR, XOR
and NOT. -/

namespace Sys2Proof.Machine

/-! ### The operations, at any width (`42_logic.md` rule R600) -/

section
variable {n : Nat} {v : View n} {answers : AnswersAt n}

theorem View.Answers.logicTo (h : v.Answers answers) (op : BitVec n → BitVec n → BitVec n) (s : State) (rd : BitVec 4)
    (b : BitVec n) :
    answers s (.next (logicTo v rd op b s)) rd (op (v.get s rd) b) (moveFlagsAre (op (v.get s rd) b) s.ccr) :=
  h s rd _ _ _ (movFlags_moveFlagsAre _ _)

theorem View.Answers.complement (h : v.Answers answers) (s : State) (rd : BitVec 4) :
    answers s (.next (complement v rd s)) rd (~~~(v.get s rd)) (moveFlagsAre (~~~(v.get s rd)) s.ccr) :=
  h s rd _ _ _ (movFlags_moveFlagsAre _ _)

end

/-! ### The instructions -/

/-- Settles O27: AND, OR and XOR are `logicTo` at their width, of the immediate or of a register, and NOT is
`complement`. -/
theorem logicResults : Obligations.LogicResults := by
  refine fun s => ⟨?byte, ?half, ?long⟩
  case byte =>
    rintro i rd val (⟨imm, rfl, rfl⟩ | ⟨rs, rfl, rfl⟩ | ⟨imm, rfl, rfl⟩ | ⟨rs, rfl, rfl⟩ | ⟨imm, rfl, rfl⟩
      | ⟨rs, rfl, rfl⟩ | ⟨rfl, rfl⟩)
    · exact vB_answersByte.logicTo (· &&& ·) s rd imm
    · exact vB_answersByte.logicTo (· &&& ·) s rd (s.get8 rs)
    · exact vB_answersByte.logicTo (· ||| ·) s rd imm
    · exact vB_answersByte.logicTo (· ||| ·) s rd (s.get8 rs)
    · exact vB_answersByte.logicTo (· ^^^ ·) s rd imm
    · exact vB_answersByte.logicTo (· ^^^ ·) s rd (s.get8 rs)
    · exact vB_answersByte.complement s rd
  case half =>
    rintro i rd val (⟨imm, rfl, rfl⟩ | ⟨rs, rfl, rfl⟩ | ⟨imm, rfl, rfl⟩ | ⟨rs, rfl, rfl⟩ | ⟨imm, rfl, rfl⟩
      | ⟨rs, rfl, rfl⟩ | ⟨rfl, rfl⟩)
    · exact vW_answersHalf.logicTo (· &&& ·) s rd imm
    · exact vW_answersHalf.logicTo (· &&& ·) s rd (s.get16 rs)
    · exact vW_answersHalf.logicTo (· ||| ·) s rd imm
    · exact vW_answersHalf.logicTo (· ||| ·) s rd (s.get16 rs)
    · exact vW_answersHalf.logicTo (· ^^^ ·) s rd imm
    · exact vW_answersHalf.logicTo (· ^^^ ·) s rd (s.get16 rs)
    · exact vW_answersHalf.complement s rd
  case long =>
    rintro i rd val (⟨imm, rfl, rfl⟩ | ⟨rs, rfl, rfl⟩ | ⟨imm, rfl, rfl⟩ | ⟨rs, rfl, rfl⟩ | ⟨imm, rfl, rfl⟩
      | ⟨rs, rfl, rfl⟩ | ⟨rfl, rfl⟩)
    · exact vL_answersLong.logicTo (· &&& ·) s rd imm
    · exact vL_answersLong.logicTo (· &&& ·) s rd (s.get32 rs)
    · exact vL_answersLong.logicTo (· ||| ·) s rd imm
    · exact vL_answersLong.logicTo (· ||| ·) s rd (s.get32 rs)
    · exact vL_answersLong.logicTo (· ^^^ ·) s rd imm
    · exact vL_answersLong.logicTo (· ^^^ ·) s rd (s.get32 rs)
    · exact vL_answersLong.complement s rd

end Sys2Proof.Machine
end

section
/-! SUPPORT. The target and the next address of a branch as arithmetic modulo 65536, and what an instruction that is
`branchIf` of its condition does; from these, the statement on the conditional branches. -/

namespace Sys2Proof.Machine

/-! ### Where a branch goes (`45_branch.md` rule R901) -/

/-- An address plus a signed displacement of at most 16 bits, modulo 65536. -/
theorem Addr.toNat_add_signExtend {n : Nat} (hn : n ≤ 16) (a : Addr) (d : BitVec n) :
    ((a + d.signExtend 16).toNat : Int) = (a.toNat + d.toInt) % 65536 := by
  have sext : (d.signExtend 16).toInt = d.toInt := BitVec.toInt_signExtend_of_le hn
  have wraps : ((d.signExtend 16).toNat : Int) % 65536 = d.toInt % 65536 := by
    rw [← sext, BitVec.toInt_eq_toNat_bmod]
    exact (Int.bmod_emod ..).symm
  rw [BitVec.toNat_add]
  omega

theorem Addr.toNat_add_two (pc : Addr) : (pc + 2).toNat = (pc.toNat + 2) % 65536 := BitVec.toNat_add ..

theorem Addr.toNat_add_four (pc : Addr) : (pc + 4).toNat = (pc.toNat + 4) % 65536 := BitVec.toNat_add ..

theorem branchNext_isNext (pc : Addr) (disp : BranchDisp) : isNext pc disp (branchNext pc disp) := by
  cases disp with
  | d8 _ => exact Addr.toNat_add_two pc
  | d16 _ => exact Addr.toNat_add_four pc

theorem branchTarget_isTarget (pc : Addr) (disp : BranchDisp) : isTarget pc disp (branchTarget pc disp) := by
  cases disp with
  | d8 d =>
    have target := Addr.toNat_add_signExtend (by decide) (pc + 2) d
    rw [Addr.toNat_add_two] at target
    show ((pc + 2 + d.signExtend 16).toNat : Int) = (pc.toNat + 2 + d.toInt) % 65536
    omega
  | d16 d =>
    have target := Addr.toNat_add_signExtend (by decide) (pc + 4) d
    rw [Addr.toNat_add_four, BitVec.signExtend_eq] at target
    show ((pc + 4 + d).toNat : Int) = (pc.toNat + 4 + d.toInt) % 65536
    omega

/-! ### A branch on a condition (`45_branch.md` rule R900) -/

theorem branchIf_true (disp : BranchDisp) (s : State) :
    branchIf true disp s = { s with pc := branchTarget s.pc disp } := rfl

theorem branchIf_false (disp : BranchDisp) (s : State) :
    branchIf false disp s = { s with pc := branchNext s.pc disp } := rfl

/-- An instruction that is `branchIf` of a test branches where the test's condition holds. -/
theorem branches_of_branchIf {s : State} {mk : BranchDisp → Instr} (test : Bool) {taken : Prop}
    (hexec : ∀ disp, exec (mk disp) s = .next (branchIf test disp s)) (htest : test = true ↔ taken) :
    branches s mk taken := by
  intro disp
  cases test with
  | true =>
    have holds : taken := htest.1 rfl
    exact ⟨branchTarget s.pc disp, by rw [hexec, branchIf_true], fun _ => branchTarget_isTarget ..,
      (absurd holds ·)⟩
  | false =>
    have fails : ¬ taken := fun h => Bool.false_ne_true (htest.2 h)
    exact ⟨branchNext s.pc disp, by rw [hexec, branchIf_false], (absurd · fails), fun _ => branchNext_isNext ..⟩

/-- Settles O33: each branch is `branchIf` of its test, and the test is its row of the table of rule R900. -/
theorem conditionalBranches : Obligations.ConditionalBranches := fun s =>
  ⟨branches_of_branchIf true (fun _ => rfl) (iff_of_true rfl trivial),
    branches_of_branchIf false (fun _ => rfl) (iff_of_false Bool.false_ne_true id),
    branches_of_branchIf (!(s.ccr.c || s.ccr.z)) (fun _ => rfl) (by simp),
    branches_of_branchIf (s.ccr.c || s.ccr.z) (fun _ => rfl) Bool.or_eq_true_iff,
    branches_of_branchIf (!s.ccr.c) (fun _ => rfl) (by simp),
    branches_of_branchIf s.ccr.c (fun _ => rfl) Iff.rfl,
    branches_of_branchIf (!s.ccr.z) (fun _ => rfl) (by simp),
    branches_of_branchIf s.ccr.z (fun _ => rfl) Iff.rfl,
    branches_of_branchIf (!s.ccr.v) (fun _ => rfl) (by simp),
    branches_of_branchIf s.ccr.v (fun _ => rfl) Iff.rfl,
    branches_of_branchIf (!s.ccr.n) (fun _ => rfl) (by simp),
    branches_of_branchIf s.ccr.n (fun _ => rfl) Iff.rfl,
    branches_of_branchIf (!(s.ccr.n ^^ s.ccr.v)) (fun _ => rfl) (by simp),
    branches_of_branchIf (s.ccr.n ^^ s.ccr.v) (fun _ => rfl) Bool.xor_iff_ne,
    branches_of_branchIf (!(s.ccr.z || (s.ccr.n ^^ s.ccr.v))) (fun _ => rfl) (by simp),
    branches_of_branchIf (s.ccr.z || (s.ccr.n ^^ s.ccr.v)) (fun _ => rfl) (by simp)⟩

end Sys2Proof.Machine
end

section
/-! SUPPORT. What NOP, SLEEP and RTE answer, in terms of the state's operations; from these, the statement on them. -/

namespace Sys2Proof.Machine

/-! ### NOP, SLEEP and RTE (`46_system.md` rules R1005-R1007, `60_exceptions.md` rule R1121) -/

theorem exec_nop (s : State) : exec .nop s = .next s := rfl

theorem exec_sleep (s : State) : exec .sleep s = .next { s with sleep := true } := rfl

theorem exec_rte (s : State) : exec .rte s = .next s.interruptReturn := rfl

/-- The flags after a return are all eight of the saved byte: the packing of rule R121 loses none. -/
theorem State.interruptReturn_ccr_pack (s : State) : s.interruptReturn.ccr.pack = s.savedCCR := by
  rw [State.interruptReturn_ccr, Ccr.pack_ofByte]

theorem State.interruptReturn_frame (s : State) :
    s.interruptReturn = { s with pc := s.interruptReturn.pc, ccr := s.interruptReturn.ccr } := rfl

/-- Settles O38: NOP and SLEEP answer their states directly, and RTE answers `State.interruptReturn`, whose pc, packed
flags and frame are the three facts asked for. -/
theorem nopSleepRteResults : Obligations.NopSleepRteResults := fun s =>
  ⟨exec_nop s, exec_sleep s, s.interruptReturn, exec_rte s, s.interruptReturn_pc, s.interruptReturn_ccr_pack,
    s.interruptReturn_frame⟩

end Sys2Proof.Machine
end

section
/-! SUPPORT. The decoder answers only well-formed instructions whose encoding the bytes begin with, part by part. -/

namespace Sys2Proof
set_option Elab.async false

/-- A well-formed instruction whose encoding `bs` begins with, where there is one: what the decoder may answer. -/
def Faithful (bs : List Byte) : Option Instr → Prop
  | none => True
  | some i => i.wellFormed = true ∧ encode i <+: bs

@[simp] theorem faithful_none (bs : List Byte) : Faithful bs none := trivial

@[simp] theorem faithful_some (bs : List Byte) (i : Instr) :
    Faithful bs (some i) ↔ i.wellFormed = true ∧ encode i <+: bs := Iff.rfl

@[simp] theorem faithful_onlyIf (bs : List Byte) (p : Bool) (i : Instr) :
    Faithful bs (onlyIf p i) ↔ (p = true → Faithful bs (some i)) := by
  cases p <;> simp [onlyIf]

theorem nb_eq_byte (h l : BitVec 4) (b : Byte) : nb h l = b ↔ h = hiNib b ∧ l = loNib b := by
  rw [← nb_hiNib_loNib b, nb_eq_iff, hiNib_nb, loNib_nb]

theorem byte_eq_nb (h l : BitVec 4) (b : Byte) : b = nb h l ↔ hiNib b = h ∧ loNib b = l := by
  rw [eq_comm, nb_eq_byte]; simp only [eq_comm]

theorem nib_eq_iff (x y : BitVec 4) : x = y ↔ x.toNat = y.toNat := BitVec.toNat_inj.symm

theorem toNat_hiNib (b : Byte) : (hiNib b).toNat = b.toNat / 16 := by
  rw [hiNib, BitVec.extractLsb'_toNat, Nat.shiftRight_eq_div_pow]
  exact Nat.mod_eq_of_lt (by omega)

theorem toNat_loNib (b : Byte) : (loNib b).toNat = b.toNat % 16 := by
  rw [loNib, BitVec.extractLsb'_toNat]; rfl

theorem hiNib_ofNat (k : Nat) : (hiNib (BitVec.ofNat 8 k)).toNat = k % 256 / 16 := by rw [toNat_hiNib]; rfl

theorem loNib_ofNat (k : Nat) : (loNib (BitVec.ofNat 8 k)).toNat = k % 16 := by
  rw [toNat_loNib, BitVec.toNat_ofNat]; omega

theorem literal_eq_byte (k : Nat) (b : Byte) : BitVec.ofNat 8 k = b ↔ k % 256 = b.toNat := by
  rw [← BitVec.toNat_inj, BitVec.toNat_ofNat]

theorem erOk_of_msb {n : BitVec 4} (h : n.msb = false) : erOk n = true := by
  simpa [msb_of_erOk] using h

theorem nib_of_toNat {n : BitVec 4} {k : Nat} (h : n.toNat = k) : n = BitVec.ofNat 4 k := by
  rw [← h, BitVec.ofNat_toNat, BitVec.setWidth_eq]

theorem zero_append_low_bits (n : BitVec 4) (h : n.extractLsb' 2 2 = 0#2) : 0#2 ++ n.extractLsb' 0 2 = n := by
  revert n; decide

/-! ### Each part of the decoder -/

section
variable (al bh : BitVec 4) (b c d e f g h i j : Byte) (imm : BitVec 16) (rest : List Byte)

theorem decode01_faithful :
    Faithful (0x01#8 :: b :: c :: d :: e :: f :: g :: h :: i :: j :: rest) (decode01 b c d e f g h i j) := by
  unfold decode01
  repeat' split
  all_goals simp +contextual [Instr.wellFormed, encode, bytes16_half, bytes24_tri, literal_eq_byte, nb_eq_byte,
    nib_eq_iff, er1_erLow, erOk_of_msb, *]
  all_goals simp_all

theorem decode0_faithful :
    Faithful (nb 0 al :: b :: c :: d :: e :: f :: g :: h :: i :: j :: rest) (decode0 (nb 0 al) b c d e f g h i j) := by
  have hal := al.isLt
  unfold decode0
  rw [loNib_nb]
  repeat' split
  case h_2 hal =>
    obtain rfl := nib_of_toNat hal
    exact decode01_faithful ..
  all_goals simp +contextual [Instr.wellFormed, encode, nb_eq_byte, byte_eq_nb, nib_eq_iff, hiNib_ofNat, loNib_ofNat,
    er1_erLow, *]
  all_goals
    simp only [imp_false] at *
    omega

theorem decode1_faithful : Faithful (nb 1 al :: b :: rest) (decode1 (nb 1 al) b) := by
  have hal := al.isLt
  unfold decode1
  rw [loNib_nb]
  repeat' split
  all_goals simp +contextual [Instr.wellFormed, encode, nb_eq_byte, byte_eq_nb, nib_eq_iff, hiNib_ofNat, loNib_ofNat,
    er1_erLow, *]
  all_goals
    simp only [imp_false] at *
    omega

theorem decodeBcc_d8_faithful : Faithful (nb 4 al :: b :: rest) (some (decodeBcc al (.d8 b))) := by
  have hal := al.isLt
  unfold decodeBcc
  split
  all_goals simp [Instr.wellFormed, encode, byte_eq_nb, nib_eq_iff, hiNib_ofNat, loNib_ofNat, *]
  simp only [imp_false] at *
  omega

theorem decodeBcc_d16_faithful (hb : loNib b = 0) :
    Faithful (0x58#8 :: b :: c :: d :: rest) (some (decodeBcc (hiNib b) (.d16 (half c d)))) := by
  have hb : b.toNat % 16 = 0 := by rw [← toNat_loNib, hb]; rfl
  unfold decodeBcc
  rw [toNat_hiNib]
  split
  all_goals
    simp only [faithful_some, Instr.wellFormed, encode, bytes16_half, List.cons_append, List.nil_append,
      List.cons_prefix_cons, List.nil_prefix, literal_eq_byte, imp_false, true_and, and_true] at *
    omega

theorem decode5_faithful : Faithful (nb 5 al :: b :: c :: d :: rest) (decode5 (nb 5 al) b c d) := by
  have hal := al.isLt
  unfold decode5
  rw [loNib_nb]
  split
  case h_9 low =>
    obtain rfl := nib_of_toNat low
    rw [faithful_onlyIf]
    exact fun hb => decodeBcc_d16_faithful _ _ _ _ (beq_iff_eq.1 hb)
  all_goals simp +contextual [Instr.wellFormed, encode, bytes16_half, bytes24_tri, nb_eq_byte, byte_eq_nb, nib_eq_iff,
    hiNib_ofNat, loNib_ofNat, zero_append_low_bits, *]
  simp only [imp_false] at *
  omega

theorem decode6_faithful : Faithful (nb 6 al :: b :: c :: d :: e :: f :: rest) (decode6 (nb 6 al) b c d e f) := by
  have hal := al.isLt
  unfold decode6
  rw [loNib_nb]
  repeat' split
  all_goals simp +contextual [Instr.wellFormed, encode, bytes16_half, bytes24_tri, nb_eq_byte, byte_eq_nb,
    nib_eq_iff, hiNib_ofNat, loNib_ofNat, er1_erLow, erOk_of_msb, zero_append_imm3, one_append_imm3, *]
  all_goals
    simp only [imp_false] at *
    omega

theorem decode78_faithful : Faithful (0x78#8 :: b :: c :: d :: e :: f :: g :: h :: rest) (decode78 b c d e f g h) := by
  unfold decode78
  repeat' split
  all_goals simp +contextual [Instr.wellFormed, encode, bytes24_tri, nb_eq_byte, literal_eq_byte, nib_eq_iff, *]
  all_goals simp_all

theorem decode79_faithful : Faithful (0x79#8 :: b :: c :: d :: rest) (decode79 b (half c d)) := by
  unfold decode79
  split
  all_goals simp [Instr.wellFormed, encode, bytes16_half, nb_eq_byte, nib_eq_iff, *]

theorem decode7A_faithful : Faithful (0x7A#8 :: b :: c :: d :: e :: f :: rest) (decode7A b (quad c d e f)) := by
  unfold decode7A
  repeat' split
  all_goals simp [Instr.wellFormed, encode, bytes32_quad, nb_eq_byte, nib_eq_iff, *]

theorem decode7B_faithful : Faithful (0x7B#8 :: b :: c :: d :: rest) (decode7B b c d) := by
  unfold decode7B
  repeat' split
  all_goals simp_all [Instr.wellFormed, encode, literal_eq_byte]

theorem decode7C_faithful (hr : erOk (hiNib b) = true) (hb : loNib b = 0) (hd : loNib d = 0) :
    Faithful (0x7C#8 :: b :: c :: d :: rest) (decode7C (hiNib b) c (hiNib d)) := by
  unfold decode7C
  repeat' split
  all_goals simp +contextual [Instr.wellFormed, encode, nb_eq_byte, literal_eq_byte, zero_append_imm3,
    one_append_imm3, *]

theorem decode7D_faithful (hr : erOk (hiNib b) = true) (hb : loNib b = 0) (hd : loNib d = 0) :
    Faithful (0x7D#8 :: b :: c :: d :: rest) (decode7D (hiNib b) c (hiNib d)) := by
  unfold decode7D
  repeat' split
  all_goals simp +contextual [Instr.wellFormed, encode, nb_eq_byte, literal_eq_byte, zero_append_imm3,
    one_append_imm3, *]

theorem decode7E_faithful (hd : loNib d = 0) : Faithful (0x7E#8 :: b :: c :: d :: rest) (decode7E b c (hiNib d)) := by
  unfold decode7E
  repeat' split
  all_goals simp +contextual [Instr.wellFormed, encode, nb_eq_byte, literal_eq_byte, zero_append_imm3,
    one_append_imm3, *]

theorem decode7F_faithful (hd : loNib d = 0) : Faithful (0x7F#8 :: b :: c :: d :: rest) (decode7F b c (hiNib d)) := by
  unfold decode7F
  repeat' split
  all_goals simp +contextual [Instr.wellFormed, encode, nb_eq_byte, literal_eq_byte, zero_append_imm3,
    one_append_imm3, *]

theorem decode7_faithful :
    Faithful (nb 7 al :: b :: c :: d :: e :: f :: g :: h :: rest) (decode7 (nb 7 al) b c d e f g h) := by
  have hal := al.isLt
  unfold decode7
  rw [loNib_nb]
  split
  case h_9 low => obtain rfl := nib_of_toNat low; exact decode78_faithful ..
  case h_10 low => obtain rfl := nib_of_toNat low; exact decode79_faithful ..
  case h_11 low => obtain rfl := nib_of_toNat low; exact decode7A_faithful ..
  case h_12 low => obtain rfl := nib_of_toNat low; exact decode7B_faithful ..
  case h_13 low =>
    obtain rfl := nib_of_toNat low
    split
    case isTrue fixed =>
      simp only [Bool.and_eq_true, beq_iff_eq] at fixed
      exact decode7C_faithful _ _ _ _ fixed.1.1 fixed.1.2 fixed.2
    case isFalse => exact faithful_none _
  case h_14 low =>
    obtain rfl := nib_of_toNat low
    split
    case isTrue fixed =>
      simp only [Bool.and_eq_true, beq_iff_eq] at fixed
      exact decode7D_faithful _ _ _ _ fixed.1.1 fixed.1.2 fixed.2
    case isFalse => exact faithful_none _
  case h_15 low =>
    obtain rfl := nib_of_toNat low
    split
    case isTrue fixed => exact decode7E_faithful _ _ _ _ (beq_iff_eq.1 fixed)
    case isFalse => exact faithful_none _
  case h_16 =>
    obtain rfl : al = 15 := by simp only [imp_false] at *; bv_omega
    split
    case isTrue fixed => exact decode7F_faithful _ _ _ _ (beq_iff_eq.1 fixed)
    case isFalse => exact faithful_none _
  all_goals try split
  all_goals simp +contextual [Instr.wellFormed, encode, nb_eq_byte, byte_eq_nb, nib_eq_iff,
    hiNib_ofNat, loNib_ofNat, zero_append_imm3, one_append_imm3, *]

theorem decodeRow_faithful (a : Byte) :
    Faithful (a :: b :: c :: d :: e :: f :: g :: h :: i :: j :: rest) (decodeRow a b c d e f g h i j) := by
  have hah := (hiNib a).isLt
  obtain ⟨ah, al, rfl⟩ : ∃ h l, a = nb h l := ⟨_, _, (nb_hiNib_loNib a).symm⟩
  rw [hiNib_nb] at hah
  unfold decodeRow
  rw [hiNib_nb]
  split
  case h_1 high => obtain rfl := nib_of_toNat high; exact decode0_faithful ..
  case h_2 high => obtain rfl := nib_of_toNat high; exact decode1_faithful ..
  case h_5 high => obtain rfl := nib_of_toNat high; rw [loNib_nb]; exact decodeBcc_d8_faithful ..
  case h_6 high => obtain rfl := nib_of_toNat high; exact decode5_faithful ..
  case h_7 high => obtain rfl := nib_of_toNat high; exact decode6_faithful ..
  case h_8 high => obtain rfl := nib_of_toNat high; exact decode7_faithful ..
  all_goals simp [Instr.wellFormed, encode, nb_eq_iff, nib_eq_iff, *]
  simp only [imp_false] at *
  omega
end

end Sys2Proof
end

section
/-! SUPPORT. Each row of the opcode table is read back from its encoding. From this and the branches of the decoder, the
statements on the encoding. -/

namespace Sys2Proof
set_option Elab.async false

/-- The row that the bytes at the head of `bs` match: `decode` before it looks at their number. -/
def headRow (bs : List Byte) : Option Instr :=
  decodeRow (bs.getD 0 0#8) (bs.getD 1 0#8) (bs.getD 2 0#8) (bs.getD 3 0#8) (bs.getD 4 0#8) (bs.getD 5 0#8)
    (bs.getD 6 0#8) (bs.getD 7 0#8) (bs.getD 8 0#8) (bs.getD 9 0#8)

theorem decode_eq (bs : List Byte) :
    decode bs = match headRow bs with
      | none => .error (.noRow (decodeKeys (bs.getD 0 0#8) (bs.getD 1 0#8) (bs.getD 2 0#8)))
      | some i => if i.length ≤ bs.length then .ok i else .error .truncated := rfl

@[simp] theorem hiNib_literal (k : Nat) : hiNib (BitVec.ofNat 8 k) = BitVec.ofNat 4 (k / 16) := by
  rw [nib_eq_iff, hiNib_ofNat, BitVec.toNat_ofNat]; omega

@[simp] theorem loNib_literal (k : Nat) : loNib (BitVec.ofNat 8 k) = BitVec.ofNat 4 k := by
  rw [nib_eq_iff, loNib_ofNat, BitVec.toNat_ofNat]

theorem msb_eq_false_of_erOk {r : ErSel} (h : erOk r = true) : r.msb = false := by simp [msb_of_erOk, h]

theorem imm2_zero_append (v : BitVec 2) :
    (0#2 ++ v : BitVec 4).extractLsb' 2 2 = 0#2 ∧ (0#2 ++ v : BitVec 4).extractLsb' 0 2 = v := by
  revert v; decide

/-- BSR and the conditional branches: the instructions whose row depends on the size of a displacement. -/
def Instr.isRelative : Instr → Bool
  | .bra _ | .brn _ | .bhi _ | .bls _ | .bcc _ | .bcs _ | .bne _ | .beq _ | .bvc _ | .bvs _ | .bpl _ | .bmi _ | .bge _
  | .blt _ | .bgt _ | .ble _ | .bsr _ => true
  | _ => false

/-- The other instructions whose row is one of `a` to `b - 1`: a part of the table that one proof goes through. -/
def Instr.inRows (i : Instr) (a b : Nat) : Bool := !i.isRelative && (Nat.ble a i.row && Nat.blt i.row b)

theorem headRow_encode_firstMoves {i : Instr} (hi : i.inRows 0 16 = true) (h : i.wellFormed = true)
    (rest : List Byte) : headRow (encode i ++ rest) = some i := by
  cases i
  all_goals try cases hi
  all_goals
    simp only [Instr.wellFormed, Bool.and_eq_true] at h
    simp [headRow, encode, bytes16, bytes32, decodeRow, decode0, decode01, decode6, decode7, decode79, decode7A,
      half_split, quad_split, onlyIf, erLow_er1, msb_eq_false_of_erOk, *]

theorem headRow_encode_indexedMoves {i : Instr} (hi : i.inRows 16 30 = true) (h : i.wellFormed = true)
    (rest : List Byte) : headRow (encode i ++ rest) = some i := by
  cases i
  all_goals try cases hi
  all_goals
    simp only [Instr.wellFormed, Bool.and_eq_true] at h
    simp [headRow, encode, bytes16, bytes24, decodeRow, decode0, decode01, decode6, decode7, decode78, half_split,
      tri_split, onlyIf, erLow_er1, msb_eq_false_of_erOk, *]

theorem headRow_encode_absoluteMoves {i : Instr} (hi : i.inRows 30 48 = true) (h : i.wellFormed = true)
    (rest : List Byte) : headRow (encode i ++ rest) = some i := by
  cases i
  all_goals try cases hi
  all_goals
    simp only [Instr.wellFormed] at h
    simp [headRow, encode, bytes16, bytes24, decodeRow, decode0, decode01, decode6, decode7, decode7B, half_split,
      tri_split, onlyIf, *]

theorem headRow_encode_additions {i : Instr} (hi : i.inRows 48 75 = true) (h : i.wellFormed = true)
    (rest : List Byte) : headRow (encode i ++ rest) = some i := by
  cases i
  all_goals try cases hi
  all_goals
    simp only [Instr.wellFormed, Bool.and_eq_true] at h
    simp [headRow, encode, bytes16, bytes32, decodeRow, decode0, decode1, decode7, decode79, decode7A, half_split,
      quad_split, onlyIf, erLow_er1, *]

theorem headRow_encode_otherArithmetic {i : Instr} (hi : i.inRows 75 102 = true) (h : i.wellFormed = true)
    (rest : List Byte) : headRow (encode i ++ rest) = some i := by
  cases i
  all_goals try cases hi
  all_goals
    simp only [Instr.wellFormed, Bool.and_eq_true] at h
    simp [headRow, encode, bytes16, bytes32, decodeRow, decode0, decode01, decode1, decode5, decode7, decode79,
      decode7A, half_split, quad_split, onlyIf, erLow_er1, *]

theorem headRow_encode_logic {i : Instr} (hi : i.inRows 102 123 = true) (h : i.wellFormed = true)
    (rest : List Byte) : headRow (encode i ++ rest) = some i := by
  cases i
  all_goals try cases hi
  all_goals
    simp only [Instr.wellFormed, Bool.and_eq_true] at h
    simp [headRow, encode, bytes16, bytes32, decodeRow, decode0, decode01, decode1, decode6, decode7, decode79,
      decode7A, half_split, quad_split, onlyIf, *]

theorem headRow_encode_shifts {i : Instr} (hi : i.inRows 123 147 = true) (h : i.wellFormed = true)
    (rest : List Byte) : headRow (encode i ++ rest) = some i := by
  cases i
  all_goals try cases hi
  all_goals
    simp only [Instr.wellFormed] at h
    simp [headRow, encode, decodeRow, decode1, onlyIf, *]

theorem headRow_encode_bitWrites {i : Instr} (hi : i.inRows 147 174 = true) (h : i.wellFormed = true)
    (rest : List Byte) : headRow (encode i ++ rest) = some i := by
  cases i
  all_goals try cases hi
  all_goals
    simp only [Instr.wellFormed] at h
    simp [headRow, encode, decodeRow, decode6, decode7, decode7C, decode7D, decode7E, decode7F, onlyIf,
      imm3_zero_append, *]

theorem headRow_encode_bitReads {i : Instr} (hi : i.inRows 174 201 = true) (h : i.wellFormed = true)
    (rest : List Byte) : headRow (encode i ++ rest) = some i := by
  cases i
  all_goals try cases hi
  all_goals
    simp only [Instr.wellFormed] at h
    simp [headRow, encode, decodeRow, decode6, decode7, decode7C, decode7D, decode7E, decode7F, imm3_zero_append,
      imm3_one_append, *]

theorem headRow_encode_jumps {i : Instr} (hi : i.inRows 201 242 = true) (h : i.wellFormed = true)
    (rest : List Byte) : headRow (encode i ++ rest) = some i := by
  cases i
  all_goals try cases hi
  all_goals
    simp only [Instr.wellFormed] at h
    simp [headRow, encode, bytes24, decodeRow, decode5, tri_split, onlyIf, *]

theorem headRow_encode_system {i : Instr} (hi : i.inRows 242 264 = true) (h : i.wellFormed = true)
    (rest : List Byte) : headRow (encode i ++ rest) = some i := by
  cases i
  all_goals try cases hi
  all_goals
    simp only [Instr.wellFormed] at h
    simp [headRow, encode, bytes16, bytes24, decodeRow, decode0, decode01, decode5, half_split, tri_split, onlyIf,
      erLow_er1, msb_eq_false_of_erOk, imm2_zero_append, *]

theorem headRow_encode_branches {i : Instr} (hb : i.isRelative = true) (rest : List Byte) :
    headRow (encode i ++ rest) = some i := by
  cases i
  all_goals try cases hb
  all_goals
    rename_i disp
    cases disp
    all_goals simp [headRow, encode, bytes16, decodeRow, decode5, decodeBcc, half_split, onlyIf]

theorem row_lt {i : Instr} (hb : i.isRelative = false) : i.row < 264 := by
  have h : i.inRows 0 264 = true := by
    cases i
    all_goals try cases hb
    all_goals rfl
  simp only [Instr.inRows, Bool.and_eq_true, Nat.blt_eq] at h
  exact h.2.2

/-- Every row is read back from its encoding, whatever bytes follow. -/
theorem headRow_encode (i : Instr) (h : i.wellFormed = true) (rest : List Byte) :
    headRow (encode i ++ rest) = some i := by
  cases hb : i.isRelative
  case true => exact headRow_encode_branches hb rest
  case false =>
    have inRows {a b : Nat} (lo : a ≤ i.row) (hi : i.row < b) : i.inRows a b = true := by
      simp only [Instr.inRows, hb, Bool.not_false, Bool.true_and, Bool.and_eq_true, Nat.ble_eq, Nat.blt_eq]
      exact ⟨lo, hi⟩
    rcases Nat.lt_or_ge i.row 16 with hi | lo
    · exact headRow_encode_firstMoves (inRows (Nat.zero_le _) hi) h rest
    rcases Nat.lt_or_ge i.row 30 with hi | lo
    · exact headRow_encode_indexedMoves (inRows lo hi) h rest
    rcases Nat.lt_or_ge i.row 48 with hi | lo
    · exact headRow_encode_absoluteMoves (inRows lo hi) h rest
    rcases Nat.lt_or_ge i.row 75 with hi | lo
    · exact headRow_encode_additions (inRows lo hi) h rest
    rcases Nat.lt_or_ge i.row 102 with hi | lo
    · exact headRow_encode_otherArithmetic (inRows lo hi) h rest
    rcases Nat.lt_or_ge i.row 123 with hi | lo
    · exact headRow_encode_logic (inRows lo hi) h rest
    rcases Nat.lt_or_ge i.row 147 with hi | lo
    · exact headRow_encode_shifts (inRows lo hi) h rest
    rcases Nat.lt_or_ge i.row 174 with hi | lo
    · exact headRow_encode_bitWrites (inRows lo hi) h rest
    rcases Nat.lt_or_ge i.row 201 with hi | lo
    · exact headRow_encode_bitReads (inRows lo hi) h rest
    rcases Nat.lt_or_ge i.row 242 with hi | lo
    · exact headRow_encode_jumps (inRows lo hi) h rest
    · exact headRow_encode_system (inRows lo (row_lt hb)) h rest

theorem decode_of_headRow {bs : List Byte} {i : Instr} (h : headRow bs = some i) (hl : i.length ≤ bs.length) :
    decode bs = .ok i := by
  rw [decode_eq, h]
  exact if_pos hl

theorem headRow_of_decode {bs : List Byte} {i : Instr} (h : decode bs = .ok i) :
    headRow bs = some i ∧ i.length ≤ bs.length := by
  rw [decode_eq] at h
  split at h
  case h_1 => exact nomatch h
  case h_2 j hj =>
    split at h
    case isTrue hl =>
      cases h
      exact ⟨hj, hl⟩
    case isFalse => exact nomatch h

/-- Settles O9: each part of the opcode table by the decoder's equations on the encoding of each of its rows. -/
theorem decodeOfEncode : Obligations.DecodeOfEncode := by
  intro i rest h
  exact decode_of_headRow (headRow_encode i h rest) (by simp [Instr.length])

/-- Settles O10: every branch of the decoder answers an instruction whose encoding the bytes begin with. -/
theorem decodedBytesAreTheEncoding : Obligations.DecodedBytesAreTheEncoding := by
  intro bs i h
  obtain ⟨hrow, hlen⟩ := headRow_of_decode h
  have faithful : Faithful (List.ofFn fun k : Fin 10 => bs.getD k 0#8) (some i) := by
    rw [← hrow]
    exact decodeRow_faithful _ _ _ _ _ _ _ _ _ [] _
  obtain ⟨hwf, hpre⟩ := faithful
  refine ⟨hwf, List.ext_getElem (by simpa [Instr.length] using hlen) fun k hk hk' => ?_⟩
  have hlt : k < bs.length := lt_of_lt_of_le hk (List.length_take_le' _ _)
  rw [hpre.getElem hk', List.getElem_take, List.getElem_ofFn, List.getD_eq_getElem _ _ hlt]

end Sys2Proof
end

section
/-! SUPPORT. What an instruction may change, with the canonical form of memory: the operations of the state, the shared
operations, then every instruction. From these, the statement on the frame of every instruction. -/

namespace Sys2Proof.Machine
set_option Elab.async false

/-- What an instruction makes of `s`: it writes only what firmware may write, keeps memory in canonical form, changes pc
only if it `jumps`, and I, UI and U only if it `loads` the CCR. -/
structure Executes (jumps loads : Bool) (s t : State) : Prop where
  written : s.sameButWritten t
  wf : s.mem.wf = true → t.mem.wf = true
  pcKept : jumps = false → t.pc = s.pc
  maskKept : loads = false → t.ccr.i = s.ccr.i ∧ t.ccr.ui = s.ccr.ui ∧ t.ccr.u = s.ccr.u

/-- A change of flags that leaves I, UI and U. -/
def keepsMask (g : Ccr → Ccr) : Prop := ∀ f, (g f).i = f.i ∧ (g f).ui = f.ui ∧ (g f).u = f.u

section
variable {j l : Bool} {s m t : State}

theorem Executes.refl (s : State) : Executes j l s s := ⟨rfl, id, fun _ => rfl, fun _ => ⟨rfl, rfl, rfl⟩⟩

theorem Executes.trans (h₁ : Executes j l s m) (h₂ : Executes j l m t) : Executes j l s t where
  written := h₁.written.trans h₂.written
  wf h := h₂.wf (h₁.wf h)
  pcKept h := (h₂.pcKept h).trans (h₁.pcKept h)
  maskKept h :=
    have ⟨i₁, ui₁, u₁⟩ := h₁.maskKept h
    have ⟨i₂, ui₂, u₂⟩ := h₂.maskKept h
    ⟨i₂.trans i₁, ui₂.trans ui₁, u₂.trans u₁⟩

/-! ### The operations of the state -/

theorem Executes.setX (h : Executes j l s t) (i : Fin 8) (v : Long) : Executes j l s (t.setX i v) :=
  h.trans ⟨rfl, id, fun _ => rfl, fun _ => ⟨rfl, rfl, rfl⟩⟩

theorem Executes.setPc (h : Executes true l s t) (a : Addr) : Executes true l s (t.setPc a) :=
  h.trans ⟨rfl, id, nofun, fun _ => ⟨rfl, rfl, rfl⟩⟩

theorem Executes.setFlags (h : Executes j l s t) {g : Ccr → Ccr} (hg : keepsMask g) : Executes j l s (t.setFlags g) :=
  h.trans ⟨rfl, id, fun _ => rfl, fun _ => hg t.ccr⟩

theorem Executes.loadFlags (h : Executes j true s t) (g : Ccr → Ccr) : Executes j true s (t.setFlags g) :=
  h.trans ⟨rfl, id, fun _ => rfl, nofun⟩

theorem Executes.drawBool (h : Executes j l s t) : Executes j l s t.drawBool.2 :=
  h.trans ⟨rfl, id, fun _ => rfl, fun _ => ⟨rfl, rfl, rfl⟩⟩

theorem Executes.drawByte (h : Executes j l s t) : Executes j l s t.drawByte.2 :=
  h.trans ⟨rfl, id, fun _ => rfl, fun _ => ⟨rfl, rfl, rfl⟩⟩

theorem Executes.drawHalf (h : Executes j l s t) : Executes j l s t.drawHalf.2 :=
  h.trans ⟨rfl, id, fun _ => rfl, fun _ => ⟨rfl, rfl, rfl⟩⟩

theorem Executes.drawLong (h : Executes j l s t) : Executes j l s t.drawLong.2 :=
  h.trans ⟨rfl, id, fun _ => rfl, fun _ => ⟨rfl, rfl, rfl⟩⟩

theorem Executes.load8 (h : Executes j l s t) (a : Addr) : Executes j l s (t.load8 a).2 :=
  h.trans ⟨(t.onlyLoaded_load8 a).read.written, Memory.wf_readHook _ _, fun _ => rfl, fun _ => ⟨rfl, rfl, rfl⟩⟩

theorem Executes.store8 (h : Executes j l s t) (a : Addr) (b : Byte) : Executes j l s (t.store8 a b) :=
  h.trans ⟨(t.onlyStored_store8 a b).written, fun hm => Memory.wf_writeHook _ _ (Memory.wf_setByte _ _ hm),
    fun _ => rfl, fun _ => ⟨rfl, rfl, rfl⟩⟩

theorem Executes.load16 (h : Executes j l s t) (a : Addr) : Executes j l s (t.load16 a).2 := (h.load8 a).load8 (a + 1)

theorem Executes.store16 (h : Executes j l s t) (a : Addr) (v : Half) : Executes j l s (t.store16 a v) :=
  (h.store8 a _).store8 (a + 1) _

theorem Executes.load32 (h : Executes j l s t) (a : Addr) : Executes j l s (t.load32 a).2 := by
  simp only [State.load32]
  exact (h.load16 a).load16 (a + 2)

theorem Executes.store32 (h : Executes j l s t) (a : Addr) (v : Long) : Executes j l s (t.store32 a v) :=
  (h.store16 a _).store16 (a + 2) _

theorem Executes.push16 (h : Executes j l s t) (v : Half) : Executes j l s (t.push16 v) := (h.setX _ _).store16 _ _

theorem Executes.pop16 (h : Executes j l s t) : Executes j l s t.pop16.2 := (h.load16 _).setX _ _

end

/-! ### The three operand sizes -/

/-- The view's accesses write no more than their own. -/
structure View.Framed {n : Nat} (v : View n) : Prop where
  set {j l : Bool} {s t : State} (h : Executes j l s t) (r : BitVec 4) (x : BitVec n) : Executes j l s (v.set t r x)
  load {j l : Bool} {s t : State} (h : Executes j l s t) (a : Addr) : Executes j l s (v.load t a).2
  store {j l : Bool} {s t : State} (h : Executes j l s t) (a : Addr) (x : BitVec n) : Executes j l s (v.store t a x)

theorem vB_framed : vB.Framed where
  set h _ _ := h.setX _ _
  load h := h.load8
  store h := h.store8

theorem vW_framed : vW.Framed where
  set h _ _ := h.setX _ _
  load h := h.load16
  store h := h.store16

theorem vL_framed : vL.Framed where
  set h _ _ := h.setX _ _
  load h := h.load32
  store h := h.store32

/-! ### The shared operations -/

section
variable {n : Nat} {v : View n} {j l : Bool}

/-- A register written, then flags other than I, UI and U: what the arithmetic, logic and shift operations do. -/
theorem View.Framed.setThenFlags (hv : v.Framed) {s t : State} (h : Executes j l s t) (rd : BitVec 4)
    (x : BitVec n) {g : Ccr → Ccr} (hg : keepsMask g) : Executes j l s ((v.set t rd x).setFlags g) :=
  (hv.set h rd x).setFlags hg

theorem View.Framed.moveTo (hv : v.Framed) {s t : State} (h : Executes j l s t) (rd : BitVec 4)
    (x : BitVec n) : Executes j l s (moveTo v rd x t) :=
  hv.setThenFlags h rd x fun _ => ⟨rfl, rfl, rfl⟩

theorem View.Framed.moveLoad (hv : v.Framed) (a : Addr) (rd : BitVec 4) (s : State) :
    Executes j l s (moveLoad v a rd s) :=
  hv.moveTo (hv.load (.refl s) a) rd _

theorem View.Framed.moveStore (hv : v.Framed) (rs : BitVec 4) (a : Addr) (s : State) :
    Executes j l s (moveStore v rs a s) :=
  (hv.store (.refl s) a _).setFlags fun _ => ⟨rfl, rfl, rfl⟩

theorem View.Framed.moveLoadInc (hv : v.Framed) (rs rd : BitVec 4) (s : State) :
    Executes j l s (moveLoadInc v rs rd s) := by
  have loaded := hv.load (.refl (j := j) (l := l) s) (eaInd s rs)
  unfold Machine.moveLoadInc
  dsimp only
  split
  · split
    · exact hv.moveTo (loaded.drawBool.setX _ _) _ _
    · exact (hv.moveTo loaded.drawBool _ _).setX _ _
  · exact hv.moveTo (loaded.setX _ _) _ _

theorem View.Framed.moveStoreDec (hv : v.Framed) (rs rd : BitVec 4) (s : State) :
    Executes j l s (moveStoreDec v rs rd s) := by
  unfold Machine.moveStoreDec
  dsimp only
  split
  · exact (hv.store ((Executes.refl s).drawBool.setX _ _) _ _).setFlags fun _ => ⟨rfl, rfl, rfl⟩
  · exact (hv.store ((Executes.refl s).setX _ _) _ _).setFlags fun _ => ⟨rfl, rfl, rfl⟩

theorem View.Framed.blockMoveByte (hv : v.Framed) (r : BitVec 4) (s : State) :
    Executes j l s (blockMoveByte v r s) :=
  hv.set (((((Executes.refl s).load8 _).store8 _ _).setX _ _).setX _ _) r _

theorem View.Framed.blockMoveLoop (hv : v.Framed) (r : BitVec 4) (k : Nat) (s : State) :
    Executes j l s (blockMoveLoop v r k s) := by
  induction k generalizing s with
  | zero => exact .refl s
  | succ k ih => exact (hv.blockMoveByte r s).trans (ih _)

theorem View.Framed.blockMove (hv : v.Framed) (r : BitVec 4) (s : State) :
    Executes j l s (blockMove v r s) :=
  hv.blockMoveLoop r _ s

theorem View.Framed.addTo (hv : v.Framed) (rd : BitVec 4) (b : BitVec n) (s : State) :
    Executes j l s (addTo v rd b s) :=
  hv.setThenFlags (.refl s) rd _ fun _ => ⟨rfl, rfl, rfl⟩

theorem View.Framed.subFrom (hv : v.Framed) (rd : BitVec 4) (b : BitVec n) (s : State) :
    Executes j l s (subFrom v rd b s) :=
  hv.setThenFlags (.refl s) rd _ fun _ => ⟨rfl, rfl, rfl⟩

theorem executes_compare (rd : BitVec 4) (b : BitVec n) (s : State) : Executes j l s (compare v rd b s) :=
  (Executes.refl s).setFlags fun _ => ⟨rfl, rfl, rfl⟩

theorem executes_addxTo (rd : Sel) (b : Byte) (s : State) : Executes j l s (addxTo rd b s) :=
  vB_framed.setThenFlags (.refl s) rd _ fun _ => ⟨rfl, rfl, rfl⟩

theorem executes_subxFrom (rd : Sel) (b : Byte) (s : State) : Executes j l s (subxFrom rd b s) :=
  vB_framed.setThenFlags (.refl s) rd _ fun _ => ⟨rfl, rfl, rfl⟩

theorem executes_set32 (rd : ErSel) (x : Long) (s : State) : Executes j l s (s.set32 rd x) :=
  (Executes.refl s).setX _ _

theorem executes_set8 (rd : Sel) (x : Byte) (s : State) : Executes j l s (s.set8 rd x) :=
  (Executes.refl s).setX _ _

theorem View.Framed.stepBy (hv : v.Framed) (rd : BitVec 4) {flags : BitVec n → Ccr → Ccr}
    (hf : ∀ a, keepsMask (flags a)) (k : BitVec n) (s : State) : Executes j l s (stepBy v rd flags k s) :=
  hv.setThenFlags (.refl s) rd _ (hf _)

theorem View.Framed.negate (hv : v.Framed) (rd : BitVec 4) (s : State) :
    Executes j l s (negate v rd s) :=
  hv.setThenFlags (.refl s) rd _ fun _ => ⟨rfl, rfl, rfl⟩

theorem Executes.decimalFinish {s t : State} (h : Executes j l s t) (rd : Sel) (r : Byte) (c : Bool) :
    Executes j l s (decimalFinish rd r c t) :=
  vB_framed.setThenFlags h.drawBool.drawBool rd r fun _ => ⟨rfl, rfl, rfl⟩

theorem executes_decimalAdjust (table : List DecimalRow) (rd : Sel) (s : State) :
    Executes j l s (decimalAdjust table rd s) := by
  unfold decimalAdjust
  dsimp only
  split
  · exact (Executes.refl s).decimalFinish _ _ _
  · exact (Executes.refl s).drawByte.drawBool.decimalFinish _ _ _

theorem executes_multiplyU {m : Nat} {dst : View (m + m)} (hd : dst.Framed) (src : View m) (rs rd : BitVec 4)
    (s : State) : Executes j l s (multiplyU dst src rs rd s) :=
  hd.set (.refl s) rd _

theorem executes_multiplyS {m : Nat} {dst : View (m + m)} (hd : dst.Framed) (src : View m) (rs rd : BitVec 4)
    (s : State) : Executes j l s (multiplyS dst src rs rd s) :=
  hd.setThenFlags (.refl s) rd _ fun _ => ⟨rfl, rfl, rfl⟩

theorem executes_divideU {m : Nat} {dst : View (m + m)} (hd : dst.Framed) (src : View m)
    {draw : State → BitVec (m + m) × State} (hdraw : ∀ {s t : State}, Executes j l s t → Executes j l s (draw t).2)
    (rs rd : BitVec 4) (s : State) : Executes j l s (divideU dst src draw rs rd s) := by
  have flagged := (Executes.refl (j := j) (l := l) s).setFlags (g := divxuFlags (src.get s rs)) fun _ => ⟨rfl, rfl, rfl⟩
  unfold divideU
  dsimp only
  split
  · exact hd.set (hdraw flagged) rd _
  · exact hd.set flagged rd _

theorem executes_divideS {m : Nat} {dst : View (m + m)} (hd : dst.Framed) (src : View m)
    {draw : State → BitVec (m + m) × State} (hdraw : ∀ {s t : State}, Executes j l s t → Executes j l s (draw t).2)
    (rs rd : BitVec 4) (s : State) : Executes j l s (divideS dst src draw rs rd s) := by
  unfold divideS
  dsimp only
  split
  · exact hd.setThenFlags (hdraw (.refl s)).drawBool rd _ fun _ => ⟨rfl, rfl, rfl⟩
  · split
    · exact hd.setThenFlags (Executes.refl s).drawBool rd _ fun _ => ⟨rfl, rfl, rfl⟩
    · exact hd.setThenFlags (.refl s) rd _ fun _ => ⟨rfl, rfl, rfl⟩

theorem View.Framed.extendU (hv : v.Framed) (m : Nat) (rd : BitVec 4) (s : State) :
    Executes j l s (extendU v m rd s) :=
  hv.setThenFlags (.refl s) rd _ fun _ => ⟨rfl, rfl, rfl⟩

theorem View.Framed.extendS (hv : v.Framed) (m : Nat) (rd : BitVec 4) (s : State) :
    Executes j l s (extendS v m rd s) :=
  hv.setThenFlags (.refl s) rd _ fun _ => ⟨rfl, rfl, rfl⟩

theorem View.Framed.logicTo (hv : v.Framed) (rd : BitVec 4) (op : BitVec n → BitVec n → BitVec n) (b : BitVec n)
    (s : State) :
    Executes j l s (logicTo v rd op b s) :=
  hv.setThenFlags (.refl s) rd _ fun _ => ⟨rfl, rfl, rfl⟩

theorem View.Framed.complement (hv : v.Framed) (rd : BitVec 4) (s : State) :
    Executes j l s (complement v rd s) :=
  hv.setThenFlags (.refl s) rd _ fun _ => ⟨rfl, rfl, rfl⟩

theorem View.Framed.shiftBy (hv : v.Framed) (op : ShiftOp) (rd : BitVec 4) (s : State) :
    Executes j l s (shiftBy v op rd s) :=
  hv.setThenFlags (.refl s) rd _ fun _ => ⟨rfl, rfl, rfl⟩

theorem executes_modifyReg (g : Byte → Byte) (rd : Sel) (s : State) : Executes j l s (modifyReg g rd s) :=
  executes_set8 rd _ s

theorem executes_modifyMem (g : Byte → Byte) (a : Addr) (s : State) : Executes j l s (modifyMem g a s) :=
  ((Executes.refl s).load8 a).store8 a _

theorem executes_testRegBit (k : BitVec 3) (rd : Sel) (s : State) : Executes j l s (testRegBit k rd s) :=
  (Executes.refl s).setFlags fun _ => ⟨rfl, rfl, rfl⟩

theorem executes_testMemBit (k : BitVec 3) (a : Addr) (s : State) : Executes j l s (testMemBit k a s) :=
  ((Executes.refl s).load8 a).setFlags fun _ => ⟨rfl, rfl, rfl⟩

theorem executes_carryFromReg (op : Bool → Bool → Bool) (k : BitVec 3) (rd : Sel) (s : State) :
    Executes j l s (carryFromReg op k rd s) :=
  (Executes.refl s).setFlags fun _ => ⟨rfl, rfl, rfl⟩

theorem executes_carryFromMem (op : Bool → Bool → Bool) (k : BitVec 3) (a : Addr) (s : State) :
    Executes j l s (carryFromMem op k a s) :=
  ((Executes.refl s).load8 a).setFlags fun _ => ⟨rfl, rfl, rfl⟩

theorem executes_branchIf (taken : Bool) (disp : BranchDisp) (s : State) : Executes true l s (branchIf taken disp s) :=
  (Executes.refl s).setPc _

theorem Executes.callTo {s t : State} (h : Executes true l s t) (ret target : Addr) :
    Executes true l s (callTo ret target t) :=
  (h.push16 ret).setPc target

theorem Executes.advance {s t : State} (h : Executes true l s t) (length : Addr) :
    Executes true l s (advance length t) :=
  h.setPc _

theorem executes_loadCcr (a : Addr) (s : State) : Executes j true s (loadCcr a s) := by
  unfold loadCcr
  exact ((Executes.refl s).load16 a).loadFlags _

theorem executes_loadCcrInc (rs : ErSel) (s : State) : Executes j true s (loadCcrInc rs s) := by
  unfold loadCcrInc
  exact (((Executes.refl s).load16 _).setX _ _).loadFlags _

theorem Executes.storeCcr {s t : State} (h : Executes j l s t) (a : Addr) : Executes j l s (storeCcr a t) :=
  h.drawByte.store16 a _

theorem executes_interruptReturn (s : State) : Executes true true s s.interruptReturn :=
  ⟨rfl, id, nofun, nofun⟩

end

/-! ### Every instruction -/

/-- Every admitted instruction but SLEEP answers a next state, and writes only what it may. -/
theorem exec_executes (i : Instr) (s : State) (hs : i ≠ .sleep) (ha : i.admitted = true) :
    ∃ t, exec i s = .next t ∧ Executes i.setsPc (loadsCcr i) s t := by
  cases i
  case movBReg | movBImm =>
    exact ⟨_, rfl, vB_framed.moveTo (.refl s) _ _⟩
  case movWReg | movWImm =>
    exact ⟨_, rfl, vW_framed.moveTo (.refl s) _ _⟩
  case movLReg | movLImm =>
    exact ⟨_, rfl, vL_framed.moveTo (.refl s) _ _⟩
  case movBInd | movBDisp16 | movBDisp24 | movBAbs8 =>
    exact ⟨_, rfl, vB_framed.moveLoad _ _ _⟩
  case movWInd | movWDisp16 | movWDisp24 =>
    exact ⟨_, rfl, vW_framed.moveLoad _ _ _⟩
  case movLInd | movLDisp16 | movLDisp24 | movLAbs16 | movLAbs24 =>
    exact ⟨_, rfl, vL_framed.moveLoad _ _ _⟩
  case movBToInd | movBToDisp16 | movBToDisp24 | movBToAbs8 =>
    exact ⟨_, rfl, vB_framed.moveStore _ _ _⟩
  case movWToInd | movWToDisp16 | movWToDisp24 =>
    exact ⟨_, rfl, vW_framed.moveStore _ _ _⟩
  case movLToInd | movLToDisp16 | movLToDisp24 | movLToAbs16 | movLToAbs24 =>
    exact ⟨_, rfl, vL_framed.moveStore _ _ _⟩
  case movBPostInc =>
    exact ⟨_, rfl, vB_framed.moveLoadInc _ _ _⟩
  case movWPostInc =>
    exact ⟨_, rfl, vW_framed.moveLoadInc _ _ _⟩
  case movLPostInc =>
    exact ⟨_, rfl, vL_framed.moveLoadInc _ _ _⟩
  case movBToPreDec =>
    exact ⟨_, rfl, vB_framed.moveStoreDec _ _ _⟩
  case movWToPreDec =>
    exact ⟨_, rfl, vW_framed.moveStoreDec _ _ _⟩
  case movLToPreDec =>
    exact ⟨_, rfl, vL_framed.moveStoreDec _ _ _⟩
  case movBAbs16 | movBAbs24 =>
    exact ⟨_, rfl, (vB_framed.moveLoad _ _ _).advance _⟩
  case movWAbs16 | movWAbs24 =>
    exact ⟨_, rfl, (vW_framed.moveLoad _ _ _).advance _⟩
  case movBToAbs16 | movBToAbs24 =>
    exact ⟨_, rfl, (vB_framed.moveStore _ _ _).advance _⟩
  case movWToAbs16 | movWToAbs24 =>
    exact ⟨_, rfl, (vW_framed.moveStore _ _ _).advance _⟩
  case eepmovB =>
    exact ⟨_, rfl, vB_framed.blockMove _ _⟩
  case eepmovW =>
    exact ⟨_, rfl, vW_framed.blockMove _ _⟩
  case movfpe | movtpe | trapa =>
    cases ha
  case addBImm | addBReg =>
    exact ⟨_, rfl, vB_framed.addTo _ _ _⟩
  case addWImm | addWReg =>
    exact ⟨_, rfl, vW_framed.addTo _ _ _⟩
  case addLImm | addLReg =>
    exact ⟨_, rfl, vL_framed.addTo _ _ _⟩
  case addxImm | addxReg =>
    exact ⟨_, rfl, executes_addxTo _ _ _⟩
  case adds1 | adds2 | adds4 | subs1 | subs2 | subs4 =>
    exact ⟨_, rfl, executes_set32 _ _ _⟩
  case incB | decB =>
    exact ⟨_, rfl, vB_framed.stepBy _ (by exact fun _ _ => ⟨rfl, rfl, rfl⟩) _ _⟩
  case incW1 | incW2 | decW1 | decW2 =>
    exact ⟨_, rfl, vW_framed.stepBy _ (by exact fun _ _ => ⟨rfl, rfl, rfl⟩) _ _⟩
  case incL1 | incL2 | decL1 | decL2 =>
    exact ⟨_, rfl, vL_framed.stepBy _ (by exact fun _ _ => ⟨rfl, rfl, rfl⟩) _ _⟩
  case daa | das =>
    exact ⟨_, rfl, executes_decimalAdjust _ _ _⟩
  case subBReg =>
    exact ⟨_, rfl, vB_framed.subFrom _ _ _⟩
  case subWImm | subWReg =>
    exact ⟨_, rfl, vW_framed.subFrom _ _ _⟩
  case subLImm | subLReg =>
    exact ⟨_, rfl, vL_framed.subFrom _ _ _⟩
  case subxImm | subxReg =>
    exact ⟨_, rfl, executes_subxFrom _ _ _⟩
  case negB =>
    exact ⟨_, rfl, vB_framed.negate _ _⟩
  case negW =>
    exact ⟨_, rfl, vW_framed.negate _ _⟩
  case negL =>
    exact ⟨_, rfl, vL_framed.negate _ _⟩
  case cmpBImm | cmpBReg | cmpWImm | cmpWReg | cmpLImm | cmpLReg =>
    exact ⟨_, rfl, executes_compare _ _ _⟩
  case mulxuB =>
    exact ⟨_, rfl, executes_multiplyU vW_framed _ _ _ _⟩
  case mulxuW =>
    exact ⟨_, rfl, executes_multiplyU vL_framed _ _ _ _⟩
  case mulxsB =>
    exact ⟨_, rfl, executes_multiplyS vW_framed _ _ _ _⟩
  case mulxsW =>
    exact ⟨_, rfl, executes_multiplyS vL_framed _ _ _ _⟩
  case divxuB =>
    exact ⟨_, rfl, executes_divideU vW_framed _ (·.drawHalf) _ _ _⟩
  case divxuW =>
    exact ⟨_, rfl, executes_divideU vL_framed _ (·.drawLong) _ _ _⟩
  case divxsB =>
    exact ⟨_, rfl, executes_divideS vW_framed _ (·.drawHalf) _ _ _⟩
  case divxsW =>
    exact ⟨_, rfl, executes_divideS vL_framed _ (·.drawLong) _ _ _⟩
  case extuW =>
    exact ⟨_, rfl, vW_framed.extendU _ _ _⟩
  case extuL =>
    exact ⟨_, rfl, vL_framed.extendU _ _ _⟩
  case extsW =>
    exact ⟨_, rfl, vW_framed.extendS _ _ _⟩
  case extsL =>
    exact ⟨_, rfl, vL_framed.extendS _ _ _⟩
  case andBImm | andBReg | orBImm | orBReg | xorBImm | xorBReg =>
    exact ⟨_, rfl, vB_framed.logicTo _ _ _ _⟩
  case andWImm | andWReg | orWImm | orWReg | xorWImm | xorWReg =>
    exact ⟨_, rfl, vW_framed.logicTo _ _ _ _⟩
  case andLImm | andLReg | orLImm | orLReg | xorLImm | xorLReg =>
    exact ⟨_, rfl, vL_framed.logicTo _ _ _ _⟩
  case notB =>
    exact ⟨_, rfl, vB_framed.complement _ _⟩
  case notW =>
    exact ⟨_, rfl, vW_framed.complement _ _⟩
  case notL =>
    exact ⟨_, rfl, vL_framed.complement _ _⟩
  case shalB | sharB | shllB | shlrB | rotlB | rotrB | rotxlB | rotxrB =>
    exact ⟨_, rfl, vB_framed.shiftBy _ _ _⟩
  case shalW | sharW | shllW | shlrW | rotlW | rotrW | rotxlW | rotxrW =>
    exact ⟨_, rfl, vW_framed.shiftBy _ _ _⟩
  case shalL | sharL | shllL | shlrL | rotlL | rotrL | rotxlL | rotxrL =>
    exact ⟨_, rfl, vL_framed.shiftBy _ _ _⟩
  case bsetImmReg | bsetRegReg | bnotImmReg | bnotRegReg | bclrImmReg | bclrRegReg | bstReg | bistReg =>
    exact ⟨_, rfl, executes_modifyReg _ _ _⟩
  case bsetImmInd | bsetRegInd | bsetImmAbs8 | bsetRegAbs8 | bnotImmInd | bnotRegInd | bnotImmAbs8 | bnotRegAbs8 |
      bclrImmInd | bclrRegInd | bclrImmAbs8 | bclrRegAbs8 | bstInd | bstAbs8 | bistInd | bistAbs8 =>
    exact ⟨_, rfl, executes_modifyMem _ _ _⟩
  case btstImmReg | btstRegReg =>
    exact ⟨_, rfl, executes_testRegBit _ _ _⟩
  case btstImmInd | btstRegInd | btstImmAbs8 | btstRegAbs8 =>
    exact ⟨_, rfl, executes_testMemBit _ _ _⟩
  case bldReg | bildReg | bandReg | biandReg | borReg | biorReg | bxorReg | bixorReg =>
    exact ⟨_, rfl, executes_carryFromReg _ _ _ _⟩
  case bldInd | bldAbs8 | bildInd | bildAbs8 | bandInd | bandAbs8 | biandInd | biandAbs8 | borInd | borAbs8 |
      biorInd | biorAbs8 | bxorInd | bxorAbs8 | bixorInd | bixorAbs8 =>
    exact ⟨_, rfl, executes_carryFromMem _ _ _ _⟩
  case bra | brn | bhi | bls | bcc | bcs | bne | beq | bvc | bvs | bpl | bmi | bge | blt | bgt | ble =>
    exact ⟨_, rfl, executes_branchIf _ _ _⟩
  case jmpInd | jmpAbs24 =>
    exact ⟨_, rfl, (Executes.refl s).setPc _⟩
  case jmpMemInd =>
    exact ⟨_, rfl, ((Executes.refl s).load16 _).setPc _⟩
  case bsr | jsrInd | jsrAbs24 =>
    exact ⟨_, rfl, (Executes.refl s).callTo _ _⟩
  case jsrMemInd =>
    exact ⟨_, rfl, ((Executes.refl s).load16 _).callTo _ _⟩
  case rts =>
    exact ⟨_, rfl, (Executes.refl s).pop16.setPc _⟩
  case ldcBImm | ldcBReg | andc | orc | xorc =>
    exact ⟨_, rfl, (Executes.refl s).loadFlags _⟩
  case ldcWInd | ldcWDisp16 | ldcWDisp24 | ldcWAbs16 | ldcWAbs24 =>
    exact ⟨_, rfl, executes_loadCcr _ _⟩
  case ldcWPostInc =>
    exact ⟨_, rfl, executes_loadCcrInc _ _⟩
  case stcBReg =>
    exact ⟨_, rfl, executes_set8 _ _ _⟩
  case stcWToInd | stcWToDisp16 | stcWToDisp24 | stcWToAbs16 | stcWToAbs24 =>
    exact ⟨_, rfl, (Executes.refl s).storeCcr _⟩
  case stcWToPreDec =>
    exact ⟨_, rfl, ((Executes.refl s).setX _ _).storeCcr _⟩
  case nop =>
    exact ⟨_, rfl, .refl s⟩
  case sleep =>
    exact absurd rfl hs
  case rte =>
    exact ⟨_, rfl, executes_interruptReturn s⟩

/-- The instructions that `exec_executes` leaves out: SLEEP, and those that are not admitted. -/
theorem exec_of_not_admitted {i : Instr} (h : i.admitted = false) (s : State) : exec i s = .next (notAdmitted i s) := by
  cases i
  case movfpe | movtpe | trapa => rfl
  all_goals cases h

theorem Executes.frame {j l : Bool} {s t : State} (h : Executes j l s t) :
    t = { s with regs := t.regs, pc := t.pc, ccr := t.ccr, mem := t.mem, sleep := t.sleep, tb1Load := t.tb1Load,
                 eep := t.eep, acc := t.acc, lcd := t.lcd, fault := t.fault, draws := t.draws }
    ∧ t.sleep = s.sleep ∧ t.fault = s.fault := by
  have written := h.written
  unfold State.sameButWritten at written
  rw [written]
  exact ⟨rfl, rfl, rfl⟩

/-- Settles O40: SLEEP and the instructions that are not admitted by what they answer, the others by `exec_executes`. -/
theorem instructionFrame : Obligations.InstructionFrame := by
  intro i s
  by_cases hs : i = .sleep
  case pos =>
    subst hs
    exact ⟨_, exec_sleep s, rfl, (absurd rfl ·), fun _ => rfl, fun _ => rfl, fun _ => ⟨rfl, rfl, rfl⟩⟩
  case neg =>
    cases ha : i.admitted with
    | false =>
      exact ⟨_, exec_of_not_admitted ha s, rfl, fun _ => rfl, nofun, fun _ => rfl, fun _ => ⟨rfl, rfl, rfl⟩⟩
    | true =>
      obtain ⟨t, ht, h⟩ := exec_executes i s hs ha
      obtain ⟨frame, sleep, fault⟩ := h.frame
      exact ⟨t, ht, frame, fun _ => sleep, fun _ => fault, h.pcKept, h.maskKept⟩

end Sys2Proof.Machine
end

section
/-! SUPPORT. What the peripheral units may change, said once: a relation between states that holds of each single change
that they make holds of every unit. -/

namespace Sys2Proof.Machine
set_option Elab.async false

/-- What the devices emit: an infrared byte, or the diagnostic of an unknown command (`60_exceptions.md` rule R1260). -/
def Event.ofDevice (e : Event) : Prop := (∃ b, e = .irTx b) ∨ ∃ b, e = .unknownCommand b

/-- `R` holds of no change, of one change after another, and of each single change that the units make of a state. -/
structure UnitClosed (R : State → State → Prop) : Prop where
  refl (s : State) : R s s
  trans {s m t : State} : R s m → R m t → R s t
  mem (s : State) {m : Memory} (h : s.mem.wf = true → m.wf = true) : R s { s with mem := m }
  eep (s : State) (e : Eeprom) : R s { s with eep := e }
  eepMem (s : State) {a : Nat} (h : a < 65536) (b : Byte) : R s { s with eepMem := s.eepMem.write eepErased a b }
  acc (s : State) (a : Accel) : R s { s with acc := a }
  accMem (s : State) {l : List Byte} (h : l.length = s.accMem.length) : R s { s with accMem := l }
  lcd (s : State) (l : Lcd) : R s { s with lcd := l }
  fb (s : State) {i : Nat} (h : i < Config.fbSize s.cfg) (b : Byte) : R s { s with fb := s.fb.write fbUnlisted i b }
  irRx (s : State) (l : List Byte) : R s { s with irRx := l }
  emit (s : State) {e : Event} (h : e.ofDevice) : R s (s.emit e)
  tb1Pre (s : State) (n : Nat) : R s { s with tb1Pre := n }
  twPre (s : State) (n : Nat) : R s { s with twPre := n }
  wall (s : State) (w : WallClock) (q : List WallClock) : R s { s with wallNow := w, wallQueue := q }
  quarter (s : State) (h : s.rtcInit = true) (n : Nat) : R s { s with rtcQuarter := n }
  rtcPrev (s : State) (p : RtcTime) : R s { s with rtcPrev := p }

section
variable {R : State → State → Prop} {s m t : State}

theorem ite_state {p : Prop} [Decidable p] (h₁ : R s m) (h₂ : R s t) : R s (if p then m else t) := by
  split
  · exact h₁
  · exact h₂

theorem UnitClosed.rawSet (hR : UnitClosed R) (h : R s t) (a : Addr) (b : Byte) : R s (t.rawSet a b) :=
  hR.trans h (hR.mem t (Memory.wf_setByte a b))

theorem UnitClosed.rawSet16 (hR : UnitClosed R) (h : R s t) (a : Addr) (v : Half) : R s (t.rawSet16 a v) :=
  hR.rawSet (hR.rawSet h a _) (a + 1) _

theorem UnitClosed.setBit (hR : UnitClosed R) (h : R s t) (f : BitLoc) (v : Bool) : R s (t.setBit f v) :=
  hR.trans h (hR.mem t (Memory.wf_setBit f v))

theorem UnitClosed.setBitIf (hR : UnitClosed R) (h : R s t) (p : Bool) (f : BitLoc) : R s (t.setBitIf p f) := by
  unfold State.setBitIf
  exact ite_state (hR.setBit h f true) h

/-! ### The clock -/

theorem State.readWall_cases (s : State) :
    s.readWall = (s.wallNow, s)
      ∨ ∃ w ws, s.wallQueue = w :: ws ∧ s.readWall = (w, { s with wallNow := w, wallQueue := ws }) := by
  unfold State.readWall
  split
  · exact .inl rfl
  · exact .inr ⟨_, _, ‹_›, rfl⟩

theorem State.readWall_rtcInit (s : State) : s.readWall.2.rtcInit = s.rtcInit := by
  obtain h | ⟨_, _, -, h⟩ := s.readWall_cases <;> rw [h]

theorem UnitClosed.readWall (hR : UnitClosed R) (s : State) : R s s.readWall.2 := by
  obtain h | ⟨_, _, -, h⟩ := s.readWall_cases
  · rw [h]
    exact hR.refl s
  · rw [h]
    exact hR.wall s _ _

theorem UnitClosed.writeClock (hR : UnitClosed R) (h : R s t) (w : WallClock) : R s (t.writeClock w) :=
  hR.rawSet (hR.rawSet (hR.rawSet (hR.rawSet h _ _) _ _) _ _) _ _

/-- A quarter counted once the RTC has started. -/
theorem UnitClosed.countQuarter (hR : UnitClosed R) (h : R s t) (ht : t.rtcInit = true) :
    R s { t with rtcQuarter := t.rtcQuarter + 1 } :=
  hR.trans h (hR.quarter t ht _)

theorem UnitClosed.setRtcPrev (hR : UnitClosed R) (h : R s t) (p : RtcTime) : R s { t with rtcPrev := p } :=
  hR.trans h (hR.rtcPrev t p)

theorem UnitClosed.rtcTick (hR : UnitClosed R) (s : State) : R s s.rtcTick := by
  unfold State.rtcTick
  split
  case isFalse => exact hR.refl s
  case isTrue started =>
    have written := hR.writeClock (hR.readWall s) s.readWall.1
    have counted := hR.countQuarter written (s.readWall_rtcInit.trans started)
    exact
      hR.setRtcPrev (hR.setBitIf (hR.setBitIf (hR.setBitIf (hR.setBitIf (hR.setBit counted _ _) _ _) _ _) _ _) _ _) _

/-! ### The serial units -/

theorem UnitClosed.sciTransmit (hR : UnitClosed R) (s : State) : R s s.sciTransmit := by
  unfold State.sciTransmit
  dsimp only
  split
  · exact hR.setBit (hR.refl s) _ _
  · split
    · exact hR.refl s
    · exact hR.setBit (hR.setBit (hR.emit s (.inl ⟨_, rfl⟩)) _ _) _ _

theorem UnitClosed.sciReceive (hR : UnitClosed R) (s : State) : R s s.sciReceive := by
  unfold State.sciReceive
  dsimp only
  split
  case h_1 => exact hR.refl s
  case h_2 b rest _ =>
    split
    · exact hR.setBit (hR.rawSet (hR.irRx s rest) _ _) _ _
    · exact hR.refl s

theorem UnitClosed.sciTick (hR : UnitClosed R) (s : State) : R s s.sciTick :=
  hR.trans (hR.sciTransmit s) (hR.sciReceive _)

theorem UnitClosed.eepCommand (hR : UnitClosed R) (s : State) (tx : Byte) : R s (s.eepCommand tx) := by
  unfold State.eepCommand
  repeat' split
  case isFalse => exact hR.emit s (.inr ⟨_, rfl⟩)
  all_goals exact hR.eep s _

theorem UnitClosed.eepByte (hR : UnitClosed R) (s : State) (mode : SsuMode) (tx : Byte) (rx : Option Byte) :
    R s (s.eepByte mode tx rx).2 := by
  unfold State.eepByte
  dsimp only
  split
  case h_1 => exact hR.eepCommand s tx
  case h_5 => exact hR.trans (hR.eepMem s (BitVec.isLt _) tx) (hR.eep _ _)
  case h_6 => exact hR.refl s
  all_goals exact hR.eep s _

theorem UnitClosed.eepCycle (hR : UnitClosed R) (s : State) (mode : SsuMode) (tx : Byte) (rx : Option Byte) :
    R s (s.eepCycle mode tx rx).2.2 := by
  have framed := hR.eep s { s.eep with progress := (frame s.eep.progress).1 }
  unfold State.eepCycle
  dsimp only
  split
  · exact hR.trans framed (hR.eepByte _ mode tx rx)
  · exact framed

theorem UnitClosed.of_accelByte (hR : UnitClosed R) {mode : SsuMode} {tx : Byte} {rx rx' : Option Byte}
    (h : s.accelByte mode tx rx = .ok (rx', t)) : R s t := by
  unfold State.accelByte at h
  dsimp only at h
  repeat' split at h
  case isTrue => exact nomatch h
  all_goals
    simp only [Except.ok.injEq, Prod.mk.injEq] at h
    obtain ⟨-, rfl⟩ := h
  case h_1 | h_2 => exact hR.acc s _
  case h_1 => exact hR.acc s _
  case h_2 => exact hR.trans (hR.accMem s List.length_set) (hR.acc _ _)

theorem UnitClosed.of_lcdData (hR : UnitClosed R) {tx : Byte} (h : s.lcdData tx = .ok t) : R s t := by
  unfold State.lcdData at h
  dsimp only at h
  split at h
  case isTrue => exact nomatch h
  case isFalse fits =>
    cases h
    exact hR.trans (hR.fb s (Nat.lt_of_not_le fits) tx) (hR.lcd _ _)

theorem UnitClosed.of_lcdCycle (hR : UnitClosed R) {path : LcdPath} {tx : Byte} {done : Bool}
    (h : s.lcdCycle path tx = .ok (done, t)) : R s t := by
  have framed := hR.lcd s { s.lcd with progress := (frame s.lcd.progress).1 }
  unfold State.lcdCycle at h
  dsimp only at h
  split at h
  case isFalse =>
    cases h
    exact framed
  case isTrue =>
    split at h
    case h_1 =>
      split at h
      case h_1 => exact nomatch h
      case h_2 stored =>
        cases h
        exact hR.trans framed (hR.of_lcdData stored)
    case h_2 =>
      cases h
      exact hR.trans framed (hR.lcd _ _)

theorem UnitClosed.of_ssuSelects (hR : UnitClosed R) {mode : SsuMode} {tx : Byte} {done : Bool} {rx : Option Byte}
    (h : s.ssuSelects mode tx = .ok (done, rx, t)) : R s t := by
  unfold State.ssuSelects at h
  dsimp only at h
  split at h
  case h_1 => exact nomatch h
  case h_2 done' rx' m accel =>
    have served : R s m := by
      split at accel
      case isFalse =>
        cases accel
        exact hR.refl s
      case isTrue =>
        split at accel
        case h_1 => exact nomatch accel
        case h_2 byte =>
          cases accel
          exact hR.of_accelByte byte
    split at h
    case isFalse =>
      cases h
      exact served
    case isTrue =>
      rw [Except.ok.injEq, Prod.mk.injEq] at h
      have cycled := hR.trans served (hR.eepCycle m mode tx rx')
      rwa [h.2] at cycled

theorem UnitClosed.of_ssuLcd (hR : UnitClosed R) {tx : Byte} {done : Bool} (h : s.ssuLcd tx = .ok (done, t)) :
    R s t := by
  unfold State.ssuLcd at h
  repeat' split at h
  case isFalse =>
    cases h
    exact hR.refl s
  all_goals exact hR.of_lcdCycle h

theorem UnitClosed.of_ssuServe (hR : UnitClosed R) {tx : Byte} {done : Bool} {rx : Option Byte}
    (h : s.ssuServe tx = .ok (done, rx, t)) : R s t := by
  unfold State.ssuServe at h
  split at h
  case isTrue => exact hR.of_ssuSelects h
  case isFalse =>
    split at h
    case h_1 => exact nomatch h
    case h_2 selects =>
      split at h
      case h_1 => exact nomatch h
      case h_2 lcd =>
        cases h
        exact hR.trans (hR.of_ssuSelects selects) (hR.of_ssuLcd lcd)

theorem UnitClosed.ssuComplete (hR : UnitClosed R) (s : State) (rx : Option Byte) : R s (s.ssuComplete rx) := by
  have flagged := hR.setBit (hR.setBit (hR.refl s) s.cfg.io.ssuTdre true) s.cfg.io.ssuTend true
  unfold State.ssuComplete
  dsimp only
  split
  · split
    · exact hR.setBit (hR.rawSet flagged _ _) _ _
    · exact hR.setBit flagged _ _
  · exact flagged

/-! What the SSU's handlers raise: an accelerometer overrun or an LCD range error, no DecodeError. -/

theorem accelByte_error {mode : SsuMode} {tx : Byte} {rx : Option Byte} {k : FaultKind}
    (h : s.accelByte mode tx rx = .error k) : k = .accelOverrun s.acc.index := by
  unfold State.accelByte at h
  dsimp only at h
  repeat' split at h
  case isTrue => exact (Except.error.inj h).symm
  all_goals exact nomatch h

theorem lcdCycle_error {path : LcdPath} {tx : Byte} {k : FaultKind} (h : s.lcdCycle path tx = .error k) :
    k = .lcdRange (s.lcd.index s.cfg.lcdWidth) := by
  unfold State.lcdCycle State.lcdData at h
  dsimp only at h
  repeat' split at h
  case h_1 raised =>
    split at raised
    · exact (Except.error.inj h).symm.trans (Except.error.inj raised).symm
    · exact nomatch raised
  all_goals exact nomatch h

theorem ssuSelects_error {mode : SsuMode} {tx : Byte} {k : FaultKind} (h : s.ssuSelects mode tx = .error k) :
    k = .accelOverrun s.acc.index := by
  unfold State.ssuSelects at h
  dsimp only at h
  split at h
  case h_1 raised =>
    cases h
    split at raised
    case isFalse => exact nomatch raised
    case isTrue =>
      split at raised
      case h_1 overrun =>
        cases raised
        exact accelByte_error overrun
      case h_2 => exact nomatch raised
  case h_2 =>
    split at h
    all_goals exact nomatch h

theorem ssuLcd_error {tx : Byte} {k : FaultKind} (h : s.ssuLcd tx = .error k) :
    k = .lcdRange (s.lcd.index s.cfg.lcdWidth) := by
  unfold State.ssuLcd at h
  repeat' split at h
  case isFalse => exact nomatch h
  all_goals exact lcdCycle_error h

theorem ssuServe_error {tx : Byte} {k : FaultKind} (h : s.ssuServe tx = .error k) : k ≠ .decodeError := by
  unfold State.ssuServe at h
  split at h
  case isTrue =>
    rw [ssuSelects_error h]
    nofun
  case isFalse =>
    split at h
    case h_1 overrun =>
      cases h
      rw [ssuSelects_error overrun]
      nofun
    case h_2 =>
      split at h
      case h_1 range =>
        cases h
        rw [ssuLcd_error range]
        nofun
      case h_2 => exact nomatch h

/-- The SSU's tick: a change of the units, or a fault of a device (`60_exceptions.md` rule R1232). -/
theorem UnitClosed.ssuTick (hR : UnitClosed R) (s : State) :
    R s s.ssuTick ∨ ∃ k, k ≠ .decodeError ∧ s.ssuTick = s.raise k none := by
  unfold State.ssuTick
  dsimp only
  split
  · exact .inl (hR.setBit (hR.refl s) _ _)
  · split
    · exact .inl (hR.refl s)
    · split
      case h_1 k error => exact .inr ⟨k, ssuServe_error error, rfl⟩
      case h_2 served =>
        left
        split
        · exact hR.trans (hR.of_ssuServe served) (hR.ssuComplete _ _)
        · exact hR.of_ssuServe served

/-! ### The timers -/

theorem UnitClosed.tb1Count (hR : UnitClosed R) (s : State) : R s s.tb1Count := by
  unfold State.tb1Count
  exact ite_state (hR.setBit (hR.rawSet (hR.refl s) _ _) _ _) (hR.rawSet (hR.refl s) _ _)

theorem UnitClosed.timerB1Advance (hR : UnitClosed R) (s : State) :
    R s s.timerB1Advance ∨ ∃ k, k ≠ .decodeError ∧ s.timerB1Advance = s.raise k none := by
  unfold State.timerB1Advance
  dsimp only
  split
  case h_1 => exact .inr ⟨.configError .b1 _, nofun, rfl⟩
  case h_2 pre now _ =>
    have prescaled := hR.tb1Pre s pre
    exact .inl (ite_state (hR.trans prescaled (hR.tb1Count _)) prescaled)

theorem UnitClosed.twCount (hR : UnitClosed R) (s : State) : R s s.twCount.1 := by
  have counted := hR.rawSet16 (hR.refl s) s.cfg.io.twTcnt (s.raw16 s.cfg.io.twTcnt + 1)
  unfold State.twCount
  refine ite_state (hR.rawSet16 ?_ _ _) ?_ <;> refine ite_state (hR.setBit ?_ _ _) ?_ <;>
    exact ite_state (hR.setBit counted _ _) counted

/-- Timer W's advancement: a change of the units, then the delivery; or a fault (`60_exceptions.md` rule R1205). -/
theorem UnitClosed.timerWAdvance (hR : UnitClosed R) (s : State) :
    (∃ m matchNow ovfNow, R s m ∧ s.timerWAdvance = m.twDeliver matchNow ovfNow)
      ∨ ∃ k, k ≠ .decodeError ∧ s.timerWAdvance = s.raise k none := by
  unfold State.timerWAdvance
  dsimp only
  split
  case h_1 => exact .inr ⟨.configError .w _, nofun, rfl⟩
  case h_2 pre now _ =>
    have prescaled := hR.twPre s pre
    left
    split
    · exact ⟨_, _, _, hR.trans prescaled (hR.twCount _), rfl⟩
    · exact ⟨_, _, _, prescaled, rfl⟩

theorem State.twDeliver_cases (s : State) (matchNow ovfNow : Bool) :
    s.twDeliver matchNow ovfNow = s
      ∨ s.ccr.i = false ∧ s.twDeliver matchNow ovfNow = s.interrupt s.cfg.vecTw := by
  unfold State.twDeliver
  cases hi : s.ccr.i with
  | true => exact .inl (if_neg (by simp))
  | false =>
    exact ite_state (R := fun s t => t = s ∨ false = false ∧ t = s.interrupt s.cfg.vecTw) (.inr ⟨rfl, rfl⟩) (.inl rfl)

end
end Sys2Proof.Machine
end

section
/-! SUPPORT. What keeps the invariant: the changes of state that raise no fault, the units of a tick, and the parts of a
step. From these, the statement on the invariant. -/

namespace Sys2Proof.Machine
set_option Elab.async false

/-- A change of `s` that raises no fault and keeps the parameters, the stores' forms and the counters' relations. -/
structure Quiet (s t : State) : Prop where
  cfg : t.cfg = s.cfg
  mem : s.mem.wf = true → t.mem.wf = true
  eepMem : s.eepMem.wfFor eepErased 65536 = true → t.eepMem.wfFor eepErased 65536 = true
  fb : s.fb.wfFor fbUnlisted (Config.fbSize s.cfg) = true → t.fb.wfFor fbUnlisted (Config.fbSize s.cfg) = true
  accMem : t.accMem.length = s.accMem.length
  counters : s.countersOk = true → t.countersOk = true
  fault : t.fault = s.fault

/-- The parameters are kept, and so is the invariant where `s` is not Faulted: `t` may be. -/
structure Follows (s t : State) : Prop where
  cfg : t.cfg = s.cfg
  inv : s.fault = none → s.inv = true → t.inv = true

section
variable {s m t : State}

theorem faultRecordOk_of_none (h : s.fault = none) : s.faultRecordOk = true := by
  simp only [State.faultRecordOk, h]

theorem Quiet.refl (s : State) : Quiet s s := ⟨rfl, id, id, id, rfl, id, rfl⟩

theorem Quiet.trans (h₁ : Quiet s m) (h₂ : Quiet m t) : Quiet s t where
  cfg := h₂.cfg.trans h₁.cfg
  mem h := h₂.mem (h₁.mem h)
  eepMem h := h₂.eepMem (h₁.eepMem h)
  fb h := by
    have := h₂.fb
    rw [h₁.cfg] at this
    exact this (h₁.fb h)
  accMem := h₂.accMem.trans h₁.accMem
  counters h := h₂.counters (h₁.counters h)
  fault := h₂.fault.trans h₁.fault

theorem Quiet.storesWf (h : Quiet s t) (hs : s.storesWf = true) : t.storesWf = true := by
  simp only [State.storesWf, Bool.and_eq_true, beq_iff_eq] at *
  obtain ⟨⟨⟨mem, eepMem⟩, fb⟩, accMem⟩ := hs
  rw [h.cfg, h.accMem]
  exact ⟨⟨⟨h.mem mem, h.eepMem eepMem⟩, h.fb fb⟩, accMem⟩

theorem Quiet.follows (h : Quiet s t) : Follows s t where
  cfg := h.cfg
  inv hf hi := by
    simp only [State.inv, Bool.and_eq_true] at *
    exact ⟨⟨h.storesWf hi.1.1, faultRecordOk_of_none (h.fault.trans hf)⟩, h.counters hi.2⟩

/-- A change without a fault, then whatever follows. -/
theorem Quiet.then (h₁ : Quiet s m) (h₂ : Follows m t) : Follows s t where
  cfg := h₂.cfg.trans h₁.cfg
  inv hf hi := h₂.inv (h₁.fault.trans hf) (h₁.follows.inv hf hi)

/-- What follows goes on where no fault was raised, and stays where one was. -/
theorem Follows.then (h₁ : Follows s m) (ends : m.fault ≠ none → t = m) (goes : m.fault = none → Follows m t) :
    Follows s t := by
  by_cases hm : m.fault = none
  · exact ⟨(goes hm).cfg.trans h₁.cfg, fun hf hi => (goes hm).inv hm (h₁.inv hf hi)⟩
  · exact ends hm ▸ h₁

/-- A fault of no DecodeError records the state it is raised in, and no keys (`60_exceptions.md` rule R1101). -/
theorem follows_raise {kind : FaultKind} {keys : Option DecodeKeys} (hk : keys.isSome = decide (kind = .decodeError))
    (s : State) : Follows s (s.raise kind keys) where
  cfg := rfl
  inv _ hi := by
    simp only [State.inv, Bool.and_eq_true] at *
    exact ⟨⟨hi.1.1, by simp [State.faultRecordOk, hk]⟩, hi.2⟩

/-- The single changes of the units are quiet, and so are the units that raise no fault. -/
theorem quiet_unitClosed : UnitClosed Quiet where
  refl := .refl
  trans := .trans
  mem _ _ h := ⟨rfl, h, id, id, rfl, id, rfl⟩
  eep _ _ := ⟨rfl, id, id, id, rfl, id, rfl⟩
  eepMem _ _ h b := ⟨rfl, id, Memory.wfFor_write b h, id, rfl, id, rfl⟩
  acc _ _ := ⟨rfl, id, id, id, rfl, id, rfl⟩
  accMem _ _ h := ⟨rfl, id, id, id, h, id, rfl⟩
  lcd _ _ := ⟨rfl, id, id, id, rfl, id, rfl⟩
  fb _ _ h b := ⟨rfl, id, id, Memory.wfFor_write b h, rfl, id, rfl⟩
  irRx _ _ := ⟨rfl, id, id, id, rfl, id, rfl⟩
  emit _ _ _ := ⟨rfl, id, id, id, rfl, id, rfl⟩
  tb1Pre _ _ := ⟨rfl, id, id, id, rfl, id, rfl⟩
  twPre _ _ := ⟨rfl, id, id, id, rfl, id, rfl⟩
  wall _ _ _ := ⟨rfl, id, id, id, rfl, id, rfl⟩
  quarter _ started _ := ⟨rfl, id, id, id, rfl, fun h => by
    simp only [State.countersOk, Bool.and_eq_true] at *
    exact ⟨by simp [started], h.2⟩, rfl⟩
  rtcPrev _ _ := ⟨rfl, id, id, id, rfl, id, rfl⟩

theorem Quiet.rawSet (h : Quiet s t) (a : Addr) (b : Byte) : Quiet s (t.rawSet a b) := quiet_unitClosed.rawSet h a b

theorem Quiet.setBit (h : Quiet s t) (f : BitLoc) (v : Bool) : Quiet s (t.setBit f v) := quiet_unitClosed.setBit h f v

theorem quiet_emit (s : State) (e : Event) : Quiet s (s.emit e) := ⟨rfl, id, id, id, rfl, id, rfl⟩

theorem quiet_interrupt (s : State) (vec : Addr) : Quiet s (s.interrupt vec) := ⟨rfl, id, id, id, rfl, id, rfl⟩

theorem Quiet.setPc (h : Quiet s t) (a : Addr) : Quiet s (t.setPc a) := h.trans ⟨rfl, id, id, id, rfl, id, rfl⟩

theorem Quiet.setX (h : Quiet s t) (i : Fin 8) (v : Long) : Quiet s (t.setX i v) :=
  h.trans ⟨rfl, id, id, id, rfl, id, rfl⟩

/-! ### The interrupt check -/

theorem quiet_rtcInitialise (s : State) : Quiet s s.rtcInitialise :=
  (quiet_unitClosed.readWall s).trans ⟨rfl, id, id, id, rfl, fun h => by
    simp only [State.countersOk, Bool.and_eq_true] at *
    exact ⟨rfl, h.2⟩, rfl⟩

theorem quiet_interruptCheck (s : State) : Quiet s s.interruptCheck := by
  unfold State.interruptCheck
  split
  · exact .refl s
  · have started : Quiet s (if s.rtcInit then s else s.rtcInitialise) := ite_state (.refl s) (quiet_rtcInitialise s)
    dsimp only
    split
    · exact started.trans (quiet_interrupt _ _)
    · exact started

/-! ### The units -/

/-- A unit that changes quietly, or raises a fault of its own. -/
theorem follows_of_quiet_or_raise (h : Quiet s t ∨ ∃ k, k ≠ .decodeError ∧ t = s.raise k none) : Follows s t := by
  rcases h with quiet | ⟨k, hk, rfl⟩
  · exact quiet.follows
  · exact follows_raise (by simp [hk]) s

theorem quiet_twDeliver (s : State) (matchNow ovfNow : Bool) : Quiet s (s.twDeliver matchNow ovfNow) := by
  obtain h | ⟨-, h⟩ := s.twDeliver_cases matchNow ovfNow
  · rw [h]
    exact .refl s
  · rw [h]
    exact quiet_interrupt _ _

theorem follows_timerWAdvance (s : State) : Follows s s.timerWAdvance := by
  refine follows_of_quiet_or_raise ?_
  obtain ⟨m, _, _, advanced, h⟩ | raised := quiet_unitClosed.timerWAdvance s
  · exact .inl (h ▸ advanced.trans (quiet_twDeliver m _ _))
  · exact .inr raised

/-! ### Ticks -/

theorem Follows.thenUnit (h : Follows s m) (due : Bool) {unit : State → State} (hunit : Follows m (unit m)) :
    Follows s (m.thenUnit due unit) := by
  unfold State.thenUnit
  split
  · exact h
  · rename_i running
    have none : m.fault = none := by simpa [State.faulted] using running
    split
    · exact h.then (absurd none) fun _ => hunit
    · exact h

theorem follows_tick (s : State) (k : Nat) : Follows s (s.tick k) :=
  ((((((((Quiet.refl s).follows.thenUnit _ (follows_of_quiet_or_raise (quiet_unitClosed.ssuTick _))).thenUnit _
    (quiet_unitClosed.sciTick _).follows).thenUnit _
    (follows_of_quiet_or_raise (quiet_unitClosed.timerB1Advance _))).thenUnit _
    (follows_timerWAdvance _)).thenUnit _ (quiet_unitClosed.rtcTick _).follows).thenUnit _
    (quiet_emit _ _).follows).thenUnit _ (quiet_emit _ _).follows)

theorem follows_tickOnce (s : State) : Follows s s.tickOnce := by
  unfold State.tickOnce
  dsimp only
  split
  · exact follows_tick s _
  · rename_i running
    have none : (s.tick s.cycleIndex).fault = none := by simpa [State.faulted] using running
    exact (follows_tick s _).then (absurd none) fun _ => Quiet.follows ⟨rfl, id, id, id, rfl, id, rfl⟩

theorem follows_ticks (k : Nat) (s : State) : Follows s (State.ticks k s) := by
  induction k generalizing s with
  | zero => exact (Quiet.refl s).follows
  | succ k ih =>
    unfold State.ticks
    split
    · exact (Quiet.refl s).follows
    · refine (follows_tickOnce s).then (fun hf => ?_) fun _ => ih _
      cases k with
      | zero => rfl
      | succ k => exact if_pos (Option.isSome_iff_ne_none.2 hf)

/-! ### The parts of a step -/

theorem quiet_applyInput (s : State) (i : HostInput) : Quiet s (s.applyInput i) := by
  cases i with
  | pushKey k =>
    have keyed := (Quiet.refl s).rawSet s.cfg.io.keyPort k
    simp only [State.applyInput]
    unfold State.pushKey
    exact ite_state ((keyed.setBit _ _).trans ⟨rfl, id, id, id, rfl, id, rfl⟩) keyed
  | irReceive b => exact ⟨rfl, id, id, id, rfl, id, rfl⟩
  | wallReading w => exact ⟨rfl, id, id, id, rfl, id, rfl⟩
  | stop =>
    refine ⟨rfl, id, id, id, rfl, fun h => ?_, rfl⟩
    simp only [State.countersOk, State.applyInput, Bool.and_eq_true, Bool.or_true] at *
    exact ⟨h.1, trivial⟩

theorem quiet_applyInputs (batch : List HostInput) (s : State) : Quiet s (batch.foldl State.applyInput s) := by
  induction batch generalizing s with
  | nil => exact .refl s
  | cons i batch ih => exact (quiet_applyInput s i).trans (ih _)

theorem quiet_takeInputs (s : State) : Quiet s s.takeInputs := by
  unfold State.takeInputs
  split
  · exact .refl s
  · rename_i batch rest _
    have dequeued : Quiet s { s with inputs := rest } := ⟨rfl, id, id, id, rfl, id, rfl⟩
    exact dequeued.trans (quiet_applyInputs batch _)

theorem quiet_endRun (s : State) (h : s.stopRequested = true) : Quiet s s.endRun := by
  refine ⟨rfl, id, id, id, rfl, fun hc => ?_, rfl⟩
  simp only [State.countersOk, Bool.and_eq_true] at hc
  simp only [State.countersOk, State.endRun, State.emit, h, Bool.or_true, Bool.and_true]
  exact hc.1

theorem quiet_beforeDecode (s : State) : Quiet s s.beforeDecode := by
  have acknowledged : Quiet s s.keyAck := by
    unfold State.keyAck
    exact ite_state ((Quiet.refl s).rawSet _ _) (.refl s)
  refine acknowledged.trans ?_
  unfold State.beforeDecode
  generalize s.keyAck = m
  unfold State.applyPcPatch
  split
  · exact .refl m
  · rename_i e _
    have written : Quiet m (m.writeView e.write) := by
      unfold State.writeView
      split
      · exact .refl m
      all_goals exact (Quiet.refl m).setX _ _
    exact written.setPc _

theorem Executes.quiet {jumps loads : Bool} (h : Executes jumps loads s t) : Quiet s t := by
  have written := h.written
  unfold State.sameButWritten at written
  have wf := h.wf
  rw [written]
  exact ⟨rfl, wf, id, id, rfl, id, rfl⟩

theorem follows_exec {i : Instr} (h : exec i s = .next t) : Follows s t := by
  by_cases hs : i = .sleep
  · subst hs
    cases h
    exact Quiet.follows ⟨rfl, id, id, id, rfl, id, rfl⟩
  · cases ha : i.admitted with
    | false =>
      rw [exec_of_not_admitted ha] at h
      cases h
      exact follows_raise rfl s
    | true =>
      obtain ⟨t', ht', executes⟩ := exec_executes i s hs ha
      rw [ht'] at h
      cases h
      exact executes.quiet.follows

theorem quiet_retire (s : State) (i : Instr) : Quiet s (s.retire i) := ⟨rfl, id, id, id, rfl, id, rfl⟩

theorem follows_afterExec (s : State) (i : Instr) : Follows s (s.afterExec i) := by
  unfold State.afterExec
  split
  · exact (Quiet.refl s).follows
  · exact ((quiet_retire s i).trans (quiet_interruptCheck _)).then (follows_ticks _ _)

theorem follows_runInstr (h : s.runInstr = .next t) : Follows s t := by
  unfold State.runInstr at h
  dsimp only at h
  split at h
  case h_1 =>
    cases h
    exact (quiet_beforeDecode s).then (follows_raise rfl _)
  case h_2 i _ =>
    split at h
    case h_1 m executed =>
      cases h
      refine (quiet_beforeDecode s).then ((follows_exec executed).then (fun hf => ?_) fun _ => follows_afterExec m i)
      exact if_pos (Option.isSome_iff_ne_none.2 hf)
    case h_2 => exact nomatch h
    case h_3 => exact nomatch h

/-- Settles O44: a Faulted machine stays; else the inputs are taken quietly, and the end of the run, the idle pass or
the instruction follows. -/
theorem stepKeepsInvariant : Obligations.StepKeepsInvariant := by
  intro s t hi h
  have pass : s.pass = .next t := h
  unfold State.pass at pass
  dsimp only at pass
  split at pass
  case isTrue => exact nomatch pass
  case isFalse =>
    split at pass
    case isTrue =>
      cases pass
      exact ⟨hi, rfl⟩
    case isFalse running =>
      have none : s.fault = none := by simpa [State.faulted] using running
      have follows : Follows s t := by
        refine (quiet_takeInputs s).then ?_
        split at pass
        case isTrue stops =>
          cases pass
          exact (quiet_endRun _ stops).follows
        case isFalse =>
          split at pass
          case isTrue =>
            cases pass
            exact (quiet_interruptCheck _).then (follows_ticks _ _)
          case isFalse => exact follows_runInstr pass
      exact ⟨follows.inv none hi, follows.cfg⟩

end
end Sys2Proof.Machine
end

section
/-! SUPPORT. The views of one register as numbers, wide stores away from the data registers, the entry of an interrupt and
the return from it. From these, the statements on them, on the reset state and on sample encodings. -/

namespace Sys2Proof.Machine
set_option Elab.async false

/-! ### Registers -/

theorem selIndex_append (c : BitVec 1) (i : BitVec 3) : selIndex (c ++ i) = ⟨i.toNat, i.isLt⟩ := by
  revert c i; decide

theorem msb_zero_append (i : BitVec 3) : (0#1 ++ i : BitVec 4).msb = false := by revert i; decide

theorem msb_one_append (i : BitVec 3) : (1#1 ++ i : BitVec 4).msb = true := by revert i; decide

/-- A half is its high byte and its low byte (`10_state.md` rule R102). -/
theorem toNat_low_half (w : Long) :
    (w.extractLsb' 0 16).toNat = 256 * (w.extractLsb' 8 8).toNat + (w.extractLsb' 0 8).toNat := by
  simp only [BitVec.extractLsb'_toNat, Nat.shiftRight_eq_div_pow]
  omega

theorem toNat_long (w : Long) : w.toNat = 65536 * (w.extractLsb' 16 16).toNat + (w.extractLsb' 0 16).toNat := by
  have := w.isLt
  simp only [BitVec.extractLsb'_toNat, Nat.shiftRight_eq_div_pow]
  omega

/-- Settles O3: a write is read back by its own view; the views of one register are parts of its bits. -/
theorem registerViewsAlias : Obligations.RegisterViewsAlias := by
  refine fun s => ⟨s.get8_set8, fun r q v hq => s.get16_set8_of_msb r v hq, s.get16_set16, fun r v i => ?_, fun i => ?_,
    fun i => ?_, fun r => rfl⟩
  · unfold State.set32
    rw [State.x_setX]
    simp only [eq_comm]
  · simp only [State.get16, State.get8, halfOf, byteOf, selIndex_append, msb_zero_append, msb_one_append, if_true,
      Bool.false_eq_true, if_false]
    exact toNat_low_half _
  · simp only [State.get32, State.get16, halfOf, selIndex_append, msb_zero_append, msb_one_append, if_true,
      Bool.false_eq_true, if_false]
    exact toNat_long _

/-! ### Wide stores away from the data registers -/

/-- A store away from the data registers writes its byte and no other. -/
theorem State.raw_store8 {s : State} {a : Addr} (h : noDataRegister s.cfg.io a 1) (b : Byte) (x : Addr) :
    (s.store8 a b).raw x = if x = a then b else s.raw x := by
  rw [State.image_store8, Image.write_of_noDataRegister h]
  rfl

theorem State.raw_store16 {s : State} {a : Addr} (h : noDataRegister s.cfg.io a 2) (v : Half) (x : Addr) :
    (s.store16 a v).raw x
      = if x = a + 1 then v.extractLsb' 0 8 else if x = a then v.extractLsb' 8 8 else s.raw x := by
  obtain ⟨h₀, h₁⟩ := (noDataRegister_succ (by decide) ..).1 h
  rw [State.store16, State.raw_store8 (by rwa [State.store8_cfg]), State.raw_store8 h₀]

/-- A half loaded away from the data registers changes nothing, so that the next load finds memory as it was. -/
theorem State.raw_load16 {s : State} {a : Addr} (h : noDataRegister s.cfg.io a 2) : (s.load16 a).2.raw = s.raw := by
  obtain ⟨h₀, h₁⟩ := (noDataRegister_succ (by decide) ..).1 h
  rw [State.image_load16]
  simp only [Image.reads]
  rw [Image.read_of_noDataRegister h₀, Image.read_of_noDataRegister h₁]

theorem State.load32_of_noDataRegister {s : State} {a : Addr} (h : noDataRegister s.cfg.io a 2)
    (h' : noDataRegister s.cfg.io (a + 2) 2) : (s.load32 a).1 = s.raw16 a ++ s.raw16 (a + 2) := by
  simp only [State.load32]
  rw [State.load16_eq_raw16 h, State.load16_eq_raw16 (by rwa [State.load16_cfg]), State.raw16, State.raw16,
    State.raw_load16 h, ← State.raw16, ← State.raw16]

/-- Settles O6: the second half of a long store lies past the first, and a load gives the pair in memory. -/
theorem mixedWidthsAgree : Obligations.MixedWidthsAgree := by
  refine fun s a => ⟨fun h v => ?_, fun h v => ?_⟩
  · refine ⟨?_, ?_, ?_⟩
    · show (s.store16 a v).raw a = _
      rw [State.raw_store16 h, if_neg (by bv_omega), if_pos rfl]
    · show (s.store16 a v).raw (a + 1) = _
      rw [State.raw_store16 h, if_pos rfl]
    · rw [State.load16_eq_raw16 (by rwa [State.store16_cfg]), State.raw16_store16 h]
  · have split : noDataRegister s.cfg.io a 2 ∧ noDataRegister s.cfg.io (a + 2) 2 := by
      simp only [noDataRegister, inRange] at *
      refine ⟨?_, ?_⟩ <;> bv_omega
    obtain ⟨h₀, h₂⟩ := split
    have first : (s.store32 a v).raw16 a = v.extractLsb' 16 16 := by
      have cfg₀ := s.store16_cfg a (v.extractLsb' 16 16)
      have keeps (x : Addr) (hx : x ≠ a + 2) (hx' : x ≠ a + 2 + 1) :
          (s.store32 a v).raw x = (s.store16 a (v.extractLsb' 16 16)).raw x := by
        rw [State.store32, State.raw_store16 (a := a + 2) (by rwa [cfg₀]), if_neg hx', if_neg hx]
      rw [State.raw16, keeps a (by bv_omega) (by bv_omega), keeps (a + 1) (by bv_omega) (by bv_omega), ← State.raw16]
      exact State.raw16_store16 h₀ _
    have second : (s.store32 a v).raw16 (a + 2) = v.extractLsb' 0 16 := by
      rw [State.store32]
      exact State.raw16_store16 (by rwa [State.store16_cfg]) _
    have cfg : (s.store32 a v).cfg = s.cfg := s.store32_cfg a v
    refine ⟨?_, ?_, ?_⟩
    · rw [State.load16_eq_raw16 (by rwa [cfg]), first]
    · rw [State.load16_eq_raw16 (by rwa [cfg]), second]
    · rw [State.load32_of_noDataRegister (by rwa [cfg]) (by rwa [cfg]), first, second, long_join]

/-! ### The reset state and sample encodings -/

/-- Settles O2: draws of 0 make construction answer `State.reset`. -/
theorem resetIsConstructedAndGood : Obligations.ResetIsConstructedAndGood := by
  refine ⟨⟨⟨State.reset.regs, State.reset.ccr, 0, 0, 0, [], ⟨0, 0, 0⟩⟩, ?_⟩, by decide +kernel, by decide +kernel⟩
  rw [State.construct, if_pos (by decide +kernel)]
  rfl

/-- Settles O8: each byte string begins with its instruction's encoding, and has no other byte. -/
theorem sampleBytesDecode : Obligations.SampleBytesDecode :=
  ⟨rfl, rfl, rfl, rfl, rfl, rfl, rfl, rfl⟩

/-! ### Interrupts -/

theorem Ccr.ofByte_pack (f : Ccr) : Ccr.ofByte f.pack = f := by
  simp only [Ccr.ofByte, Ccr.getLsbD_pack]
  rfl

/-- The big-endian pair at an address, as a number. -/
theorem State.toNat_raw16 (s : State) (a : Addr) :
    (s.raw16 a).toNat = 256 * (s.raw a).toNat + (s.raw (a + 1)).toNat := by
  rw [State.raw16, ← bigEndian_two]
  simp [bigEndian]

/-- Settles O46: the entry packs the flags, and the return unpacks them. -/
theorem interruptEntryAndReturn : Obligations.InterruptEntryAndReturn := by
  refine fun s vec => ⟨s.toNat_raw16 vec, rfl, rfl, rfl, ?_⟩
  rw [exec_rte]
  simp only [State.interruptReturn, State.interrupt_savedPC, State.interrupt_savedCCR, Ccr.ofByte_pack]

/-- The state of the check once the RTC has started (`60_exceptions.md` rule R1220). -/
def State.rtcStarted (s : State) : State := if s.rtcInit then s else s.rtcInitialise

theorem State.readWall_cfg (s : State) : s.readWall.2.cfg = s.cfg := (quiet_unitClosed.readWall s).cfg

theorem State.readWall_mem (s : State) : s.readWall.2.mem = s.mem := by
  obtain h | ⟨_, _, -, h⟩ := s.readWall_cases <;> rw [h]

theorem State.rtcStarted_cfg (s : State) : s.rtcStarted.cfg = s.cfg := by
  unfold State.rtcStarted
  split
  · rfl
  · exact s.readWall_cfg

theorem State.rtcStarted_mem (s : State) : s.rtcStarted.mem = s.mem := by
  unfold State.rtcStarted
  split
  · rfl
  · exact s.readWall_mem

/-- Starting the RTC changes no flag and no enable. -/
theorem State.rtcStarted_requests (s : State) : s.rtcStarted.requests = s.requests := by
  funext src
  unfold State.requests State.bit State.raw
  rw [State.rtcStarted_mem]

theorem State.rtcStarted_takenSource (s : State) : s.rtcStarted.takenSource = s.takenSource := by
  unfold State.takenSource
  rw [State.rtcStarted_cfg, State.rtcStarted_requests]

theorem State.interruptCheck_masked {s : State} (h : s.ccr.i = true) : s.interruptCheck = s := if_pos h

theorem State.interruptCheck_open {s : State} (h : s.ccr.i = false) :
    s.interruptCheck = (s.takenSource).elim s.rtcStarted fun src => s.rtcStarted.interrupt src.2.2 := by
  rw [← State.rtcStarted_takenSource]
  unfold State.interruptCheck
  rw [if_neg (by simp [h])]
  show (match s.rtcStarted.takenSource with
    | some src => s.rtcStarted.interrupt src.2.2
    | none => s.rtcStarted) = _
  cases s.rtcStarted.takenSource <;> rfl

/-- The first source of a list that requests is taken (`60_exceptions.md` rule R1110). -/
theorem find?_cons_elim {A B : Type} (p : A → Bool) (x : A) (xs : List A) (none : B) (some : A → B) :
    ((x :: xs).find? p).elim none some = if p x then some x else (xs.find? p).elim none some := by
  rw [List.find?_cons]
  cases p x <;> rfl

/-- Settles O47: `takenSource` goes through the sources in their order, and starting the RTC changes no flag. -/
theorem interruptPriority : Obligations.InterruptPriority := by
  refine fun s => ⟨State.interruptCheck_masked, fun h => ?_, fun hq => ?_, fun w ws hq => ?_⟩
  · rw [State.interruptCheck_open h]
    unfold State.takenSource sources
    simp only [find?_cons_elim]
    rfl
  · rw [State.readWall, hq]
  · rw [State.readWall, hq]

end Sys2Proof.Machine
end

section
/-! SUPPORT. What a step is in each case, what ticks and host inputs leave of the CPU, and what a tick emits. From
these, the statements on the step, on sleep and on ticks. -/

namespace Sys2Proof.Machine
set_option Elab.async false

/-! ### The cases of a step (`60_exceptions.md` rules R1101, R1140, R1350) -/

section
variable {s t d : State}

theorem State.faulted_iff : s.faulted = true ↔ s.fault ≠ none := Option.isSome_iff_ne_none

theorem State.not_faulted_iff : ¬ s.faulted = true ↔ s.fault = none := by
  rw [State.faulted_iff, not_not]

theorem step_of_runEnded (h : s.runEnded = true) : step s = .fault .runEnded := if_pos h

theorem step_of_faulted (he : s.runEnded = false) (hf : s.fault ≠ none) : step s = .next s := by
  have faulted : s.faulted = true := Option.isSome_iff_ne_none.2 hf
  simp [step, State.pass, he, faulted]

theorem step_of_running (h : s.running) :
    step s = if s.takeInputs.stopRequested then .next s.takeInputs.endRun
      else if s.takeInputs.sleep then .next s.takeInputs.idle else s.takeInputs.runInstr := by
  obtain ⟨hf, he⟩ := h
  have notFaulted : s.faulted = false := by simp [State.faulted, hf]
  simp [step, State.pass, he, notFaulted]

theorem step_of_awake (h : s.awake) : step s = s.takeInputs.runInstr := by
  obtain ⟨running, notStopped, notAsleep⟩ := h
  rw [step_of_running running, notStopped, notAsleep]
  rfl

/-- Settles O43: each clause is one case of the step. -/
theorem runEnds : Obligations.RunEnds := by
  refine ⟨fun s hf he => step_of_faulted he hf, fun s running stops => ?_, fun s => step_of_runEnded⟩
  rw [step_of_running running, stops]
  rfl

/-! ### An awake step -/

theorem runInstr_of_decode {i : Instr} (hd : decode s.beforeDecode.fetch = .ok i)
    (ht : exec i s.beforeDecode = .next t) : s.runInstr = .next (t.afterExec i) := by
  simp only [State.runInstr, hd, ht]

theorem afterExec_of_faulted (i : Instr) (h : t.fault ≠ none) : t.afterExec i = t :=
  if_pos (State.faulted_iff.2 h)

theorem afterExec_of_running (i : Instr) (h : t.fault = none) :
    t.afterExec i = State.ticks (cycleCost t.cfg i) (t.retire i).interruptCheck :=
  if_neg (State.not_faulted_iff.2 h)

theorem keyAck_of_ne (h : s.pc ≠ s.cfg.keyAckPc) : s.keyAck = s := if_neg h

theorem applyPcPatch_of_none (h : ∀ e ∈ s.cfg.pcPatches, e.addr ≠ s.pc) : s.applyPcPatch = s := by
  have none : s.cfg.pcPatches.find? (fun e => e.addr == s.pc) = none := by
    simpa using h
  rw [State.applyPcPatch, none]

theorem fetch_getD (s : State) {k : Nat} (hk : k < 10) :
    s.fetch.getD k 0 = s.raw (s.pc + BitVec.ofNat 16 k) := by
  have hlen : k < s.fetch.length := by simpa [State.fetch] using hk
  rw [List.getD_eq_getElem _ _ hlen]
  simp [State.fetch]

/-- Settles O41: an awake step is the instruction's answer, then `afterExec`. -/
theorem stepRunsInstruction : Obligations.StepRunsInstruction := by
  intro s i awake hd
  refine ⟨fun t ht => ?_, fun k hk => fetch_getD _ hk, rfl, fun hack hpatch => ?_⟩
  · have step_eq : step s = .next (t.afterExec i) := (step_of_awake awake).trans (runInstr_of_decode hd ht)
    have cfg : t.cfg = s.cfg :=
      calc t.cfg = s.takeInputs.beforeDecode.cfg := (follows_exec ht).cfg
        _ = s.takeInputs.cfg := (quiet_beforeDecode _).cfg
        _ = s.cfg := (quiet_takeInputs s).cfg
    refine ⟨fun hf => by rw [step_eq, afterExec_of_faulted i hf], fun hf => ?_⟩
    have cost : cycleCost t.cfg i = s.cfg.cycles.getD i.row 1 := by rw [cfg]; rfl
    rw [step_eq, afterExec_of_running i hf, cost]
    rfl
  · have cfg := (quiet_takeInputs s).cfg
    rw [State.beforeDecode, keyAck_of_ne (by rwa [cfg]), applyPcPatch_of_none (by rwa [cfg])]

/-- The first key of what a decoder rejects holds the nibbles of the first byte (`30_encoding.md` rule R322). -/
theorem rejectKeys_k1 {bs : List Byte} {e : DecodeReject} (h : decode bs = .error e) :
    (rejectKeys bs e).k1 = (hiNib (bs.getD 0 0), loNib (bs.getD 0 0)) := by
  rw [decode_eq] at h
  split at h
  case h_1 =>
    cases h
    rfl
  case h_2 =>
    split at h
    case isTrue => exact nomatch h
    case isFalse =>
      cases h
      rfl

theorem length_pos_of_not_admitted {i : Instr} (h : i.admitted = false) : 0 < i.length := by
  cases i
  case movfpe | movtpe | trapa => exact Nat.zero_lt_succ _
  all_goals cases h

/-- An instruction that bytes decode to has their first key. -/
theorem keysOf_k1_of_decode {bs : List Byte} {i : Instr} (hd : decode bs = .ok i) (hi : 0 < i.length) :
    (keysOf i).k1 = (hiNib (bs.getD 0 0), loNib (bs.getD 0 0)) := by
  have bytes : bs.take i.length = encode i := (decodedBytesAreTheEncoding bs i hd).2
  have first : (encode i).getD 0 0 = bs.getD 0 0 := by
    rw [← bytes, List.getD_eq_getElem?_getD, List.getD_eq_getElem?_getD, List.getElem?_take_of_lt hi]
  rw [← first]
  rfl

theorem runInstr_of_error {e : DecodeReject} (h : decode s.beforeDecode.fetch = .error e) :
    s.runInstr = .next (s.beforeDecode.raise .decodeError (some (rejectKeys s.beforeDecode.fetch e))) := by
  simp only [State.runInstr, h]

/-- Settles O42: the decoder rejects, or the instruction is not admitted and answers the same fault. -/
theorem stepRejectsUndecodableBytes : Obligations.StepRejectsUndecodableBytes := by
  rintro s awake d rfl rejected
  have firstByte : s.takeInputs.beforeDecode.fetch.getD 0 0
      = s.takeInputs.beforeDecode.raw s.takeInputs.beforeDecode.pc := by
    rw [fetch_getD _ (by decide), BitVec.add_zero]
  rw [step_of_awake awake]
  cases hd : decode s.takeInputs.beforeDecode.fetch with
  | error e =>
    refine ⟨rejectKeys s.takeInputs.beforeDecode.fetch e, ?_, runInstr_of_error hd⟩
    rw [rejectKeys_k1 hd, firstByte]
    rfl
  | ok i =>
    have notAdmitted := rejected i hd
    refine ⟨keysOf i, ?_, ?_⟩
    · rw [keysOf_k1_of_decode hd (length_pos_of_not_admitted notAdmitted), firstByte]
      rfl
    · rw [runInstr_of_decode hd (exec_of_not_admitted notAdmitted _), afterExec_of_faulted _ (by nofun)]
      rfl

end

/-! ### The stages of a tick (`60_exceptions.md` rules R1101, R1140) -/

section
variable {s m t : State} {k : Nat} {unit : State → State}

theorem runsIfDue_thenUnit (m : State) (k : Nat) {period period' : Nat} (hp : period' = period) (unit : State → State) :
    runsIfDue m (m.thenUnit (dueAt k period') unit) k period unit := by
  subst hp
  unfold runsIfDue State.thenUnit
  cases hf : m.fault with
  | none => simp +contextual [State.faulted, dueAt, hf]
  | some r => simp [State.faulted, hf]

/-- What a stage keeps: what its unit keeps. -/
theorem runsIfDue.keeps {R : State → State → Prop} {period : Nat} (h : runsIfDue m t k period unit) (refl : R m m)
    (hunit : R m (unit m)) : R m t := by
  obtain ⟨runs, stays⟩ := h
  by_cases due : m.fault = none ∧ k % period = 0
  · rw [runs due.1 due.2]
    exact hunit
  · rw [stays (by tauto)]
    exact refl

/-- A stage after a fault does nothing, so that a stage that ends without a fault began without one. -/
theorem runsIfDue.running {period : Nat} (h : runsIfDue m t k period unit) (ht : t.fault = none) : m.fault = none := by
  by_contra hm
  exact hm (h.2 (.inl hm) ▸ ht)

theorem runsIfDue.runs {period : Nat} (h : runsIfDue m t k period unit) (hk : k % period = 0) (ht : t.fault = none) :
    t = unit m := h.1 (h.running ht) hk

theorem runsIfDue.off {period : Nat} (h : runsIfDue m t k period unit) (hk : k % period ≠ 0) : t = m :=
  h.2 (.inr hk)

theorem runsIfDue.cfg {period : Nat} (h : runsIfDue m t k period unit) (hunit : (unit m).cfg = m.cfg) :
    t.cfg = m.cfg :=
  h.keeps (R := fun m t => t.cfg = m.cfg) rfl hunit

/-- The units of a tick, each in the state that those before it leave. -/
theorem tick_stages (s : State) (k : Nat) : ∃ s₁ s₂ s₃ s₄ s₅ s₆,
    runsIfDue s s₁ k (s.cfg.ssuPeriod.getD (s.field s.cfg.io.ssuCks) 1) State.ssuTick
    ∧ runsIfDue s₁ s₂ k (s.cfg.sci3Period.getD (s₁.field s.cfg.io.sciCks) 1) State.sciTick
    ∧ runsIfDue s₂ s₃ k s.cfg.timerPeriod State.timerB1Advance
    ∧ runsIfDue s₃ s₄ k s.cfg.timerPeriod State.timerWAdvance
    ∧ runsIfDue s₄ s₅ k s.cfg.displayPeriod State.rtcTick
    ∧ runsIfDue s₅ s₆ k s.cfg.displayPeriod State.lcdEmit
    ∧ runsIfDue s₆ (s.tick k) k s.cfg.displayPeriod State.audioEmit := by
  have r₁ := runsIfDue_thenUnit s k rfl State.ssuTick (period' := s.ssuPeriod)
  unfold State.tick
  dsimp only
  generalize s.thenUnit (dueAt k s.ssuPeriod) State.ssuTick = s₁ at *
  have c₁ := r₁.cfg (follows_of_quiet_or_raise (quiet_unitClosed.ssuTick s)).cfg
  have r₂ := runsIfDue_thenUnit s₁ k rfl State.sciTick (period' := s₁.sci3Period)
  generalize s₁.thenUnit (dueAt k s₁.sci3Period) State.sciTick = s₂ at *
  have c₂ := (r₂.cfg (quiet_unitClosed.sciTick s₁).cfg).trans c₁
  have r₃ := runsIfDue_thenUnit s₂ k (by rw [c₂]) State.timerB1Advance (period' := s₂.cfg.timerPeriod)
  generalize s₂.thenUnit (dueAt k s₂.cfg.timerPeriod) State.timerB1Advance = s₃ at *
  have c₃ := (r₃.cfg (follows_of_quiet_or_raise (quiet_unitClosed.timerB1Advance s₂)).cfg).trans c₂
  have r₄ := runsIfDue_thenUnit s₃ k (by rw [c₃]) State.timerWAdvance (period' := s₃.cfg.timerPeriod)
  generalize s₃.thenUnit (dueAt k s₃.cfg.timerPeriod) State.timerWAdvance = s₄ at *
  have c₄ := (r₄.cfg (follows_timerWAdvance s₃).cfg).trans c₃
  have r₅ := runsIfDue_thenUnit s₄ k (by rw [c₄]) State.rtcTick (period' := s₄.cfg.displayPeriod)
  generalize s₄.thenUnit (dueAt k s₄.cfg.displayPeriod) State.rtcTick = s₅ at *
  have c₅ := (r₅.cfg (quiet_unitClosed.rtcTick s₄).cfg).trans c₄
  have r₆ := runsIfDue_thenUnit s₅ k (by rw [c₅]) State.lcdEmit (period' := s₅.cfg.displayPeriod)
  generalize s₅.thenUnit (dueAt k s₅.cfg.displayPeriod) State.lcdEmit = s₆ at *
  have c₆ := (r₆.cfg rfl).trans c₅
  have r₇ := runsIfDue_thenUnit s₆ k (by rw [c₆]) State.audioEmit (period' := s₆.cfg.displayPeriod)
  refine ⟨s₁, s₂, s₃, s₄, s₅, s₆, r₁, ?_, r₃, r₄, r₅, r₆, r₇⟩
  rw [← c₁]
  exact r₂

end

/-! ### What ticks leave of the CPU -/

/-- `t` is `s` but for memory, the devices, the clock, the queues, the fault and the outputs: what a tick may change
while I is set. -/
def State.sameCpu (s t : State) : Prop :=
  t = { s with mem := t.mem, rtcQuarter := t.rtcQuarter, rtcPrev := t.rtcPrev, tb1Pre := t.tb1Pre, twPre := t.twPre,
               eep := t.eep, eepMem := t.eepMem, acc := t.acc, accMem := t.accMem, lcd := t.lcd, fb := t.fb,
               irRx := t.irRx, fault := t.fault, out := t.out, wallNow := t.wallNow, wallQueue := t.wallQueue }

section
variable {s m t : State}

theorem State.sameCpu.refl (s : State) : s.sameCpu s := rfl

theorem State.sameCpu.trans (h₁ : s.sameCpu m) (h₂ : m.sameCpu t) : s.sameCpu t := by
  unfold State.sameCpu at *
  rw [h₂, h₁]

theorem sameCpu_unitClosed : UnitClosed State.sameCpu where
  refl _ := rfl
  trans := .trans
  mem _ _ _ := rfl
  eep _ _ := rfl
  eepMem _ _ _ _ := rfl
  acc _ _ := rfl
  accMem _ _ _ := rfl
  lcd _ _ := rfl
  fb _ _ _ _ := rfl
  irRx _ _ := rfl
  emit _ _ _ := rfl
  tb1Pre _ _ := rfl
  twPre _ _ := rfl
  wall _ _ _ := rfl
  quarter _ _ _ := rfl
  rtcPrev _ _ := rfl

theorem sameCpu_of_unit_or_raise (h : s.sameCpu t ∨ ∃ k, k ≠ .decodeError ∧ t = s.raise k none) : s.sameCpu t := by
  obtain h | ⟨k, -, rfl⟩ := h
  · exact h
  · rfl

theorem State.sameCpu.ccr_eq (h : s.sameCpu t) : t.ccr = s.ccr := by
  unfold State.sameCpu at h
  rw [h]

/-- With I set, Timer W delivers nothing (`60_exceptions.md` rule R1204). -/
theorem sameCpu_timerWAdvance (hi : s.ccr.i = true) : s.sameCpu s.timerWAdvance := by
  obtain ⟨m, _, _, advanced, h⟩ | ⟨k, -, h⟩ := sameCpu_unitClosed.timerWAdvance s
  · obtain h' | ⟨open_, -⟩ := m.twDeliver_cases _ _
    · rw [h, h']
      exact advanced
    · rw [advanced.ccr_eq, hi] at open_
      exact nomatch open_
  · rw [h]
    rfl

/-- A stage keeps `sameCpu` where its unit does, so that it keeps I set. -/
theorem sameCpu_stage {k period : Nat} {unit : State → State} (h : s.sameCpu m) (hi : s.ccr.i = true)
    (stage : runsIfDue m t k period unit) (hunit : m.ccr.i = true → m.sameCpu (unit m)) : s.sameCpu t :=
  h.trans (stage.keeps (R := State.sameCpu) rfl (hunit (by rw [h.ccr_eq, hi])))

theorem sameCpu_tick (hi : s.ccr.i = true) (k : Nat) : s.sameCpu (s.tick k) := by
  obtain ⟨s₁, s₂, s₃, s₄, s₅, s₆, r₁, r₂, r₃, r₄, r₅, r₆, r₇⟩ := tick_stages s k
  have h₁ := sameCpu_stage (.refl s) hi r₁ fun _ => sameCpu_of_unit_or_raise (sameCpu_unitClosed.ssuTick _)
  have h₂ := sameCpu_stage h₁ hi r₂ fun _ => sameCpu_unitClosed.sciTick _
  have h₃ := sameCpu_stage h₂ hi r₃ fun _ => sameCpu_of_unit_or_raise (sameCpu_unitClosed.timerB1Advance _)
  have h₄ := sameCpu_stage h₃ hi r₄ sameCpu_timerWAdvance
  have h₅ := sameCpu_stage h₄ hi r₅ fun _ => sameCpu_unitClosed.rtcTick _
  have h₆ := sameCpu_stage h₅ hi r₆ fun _ => rfl
  exact sameCpu_stage h₆ hi r₇ fun _ => rfl

/-! ### Ticks in a row -/

theorem tickOnce_of_faulted (h : (s.tick s.cycleIndex).fault ≠ none) : s.tickOnce = s.tick s.cycleIndex :=
  if_pos (State.faulted_iff.2 h)

theorem tickOnce_of_running (h : (s.tick s.cycleIndex).fault = none) :
    s.tickOnce = { s.tick s.cycleIndex with cycleIndex := (s.tick s.cycleIndex).cycleIndex + 1 } :=
  if_neg (State.not_faulted_iff.2 h)

theorem ticks_of_faulted (n : Nat) (h : s.fault ≠ none) : State.ticks n s = s := by
  cases n with
  | zero => rfl
  | succ n => exact if_pos (State.faulted_iff.2 h)

theorem ticks_succ_of_running (n : Nat) (h : s.fault = none) : State.ticks (n + 1) s = State.ticks n s.tickOnce :=
  if_neg (State.not_faulted_iff.2 h)

/-- One tick more comes last as well as first. -/
theorem ticks_succ' (n : Nat) (s : State) :
    State.ticks (n + 1) s = if (State.ticks n s).faulted then State.ticks n s else (State.ticks n s).tickOnce := by
  induction n generalizing s with
  | zero => rfl
  | succ n ih =>
    by_cases h : s.fault = none
    · rw [ticks_succ_of_running _ h, ih, ticks_succ_of_running _ h]
    · rw [ticks_of_faulted _ h, ticks_of_faulted _ h, if_pos (State.faulted_iff.2 h)]

/-! ### The cycle index and the outputs of a tick -/

/-- The parameters and the cycle index stay, and the outputs that are added are infrared bytes and diagnostics. -/
def State.emitsOnlyDevice (s t : State) : Prop :=
  t.cfg = s.cfg ∧ t.cycleIndex = s.cycleIndex ∧ ∃ l, t.out = s.out ++ l ∧ ∀ e ∈ l, e.ofDevice

theorem emitsOnlyDevice_of_same (cfg : t.cfg = s.cfg) (cycleIndex : t.cycleIndex = s.cycleIndex) (out : t.out = s.out) :
    s.emitsOnlyDevice t := ⟨cfg, cycleIndex, [], by simpa using out, by simp⟩

theorem State.emitsOnlyDevice.trans (h₁ : s.emitsOnlyDevice m) (h₂ : m.emitsOnlyDevice t) : s.emitsOnlyDevice t := by
  obtain ⟨cfg₁, cycle₁, l₁, out₁, device₁⟩ := h₁
  obtain ⟨cfg₂, cycle₂, l₂, out₂, device₂⟩ := h₂
  refine ⟨cfg₂.trans cfg₁, cycle₂.trans cycle₁, l₁ ++ l₂, by rw [out₂, out₁, List.append_assoc], fun e he => ?_⟩
  exact (List.mem_append.1 he).elim (device₁ e) (device₂ e)

theorem emitsOnlyDevice_unitClosed : UnitClosed State.emitsOnlyDevice where
  refl _ := emitsOnlyDevice_of_same rfl rfl rfl
  trans := .trans
  mem _ _ _ := emitsOnlyDevice_of_same rfl rfl rfl
  eep _ _ := emitsOnlyDevice_of_same rfl rfl rfl
  eepMem _ _ _ _ := emitsOnlyDevice_of_same rfl rfl rfl
  acc _ _ := emitsOnlyDevice_of_same rfl rfl rfl
  accMem _ _ _ := emitsOnlyDevice_of_same rfl rfl rfl
  lcd _ _ := emitsOnlyDevice_of_same rfl rfl rfl
  fb _ _ _ _ := emitsOnlyDevice_of_same rfl rfl rfl
  irRx _ _ := emitsOnlyDevice_of_same rfl rfl rfl
  emit _ e h := ⟨rfl, rfl, [e], rfl, by simpa using h⟩
  tb1Pre _ _ := emitsOnlyDevice_of_same rfl rfl rfl
  twPre _ _ := emitsOnlyDevice_of_same rfl rfl rfl
  wall _ _ _ := emitsOnlyDevice_of_same rfl rfl rfl
  quarter _ _ _ := emitsOnlyDevice_of_same rfl rfl rfl
  rtcPrev _ _ := emitsOnlyDevice_of_same rfl rfl rfl

theorem emitsOnlyDevice_of_unit_or_raise (h : s.emitsOnlyDevice t ∨ ∃ k, k ≠ .decodeError ∧ t = s.raise k none) :
    s.emitsOnlyDevice t := by
  obtain h | ⟨k, -, rfl⟩ := h
  · exact h
  · exact emitsOnlyDevice_of_same rfl rfl rfl

theorem emitsOnlyDevice_timerWAdvance (s : State) : s.emitsOnlyDevice s.timerWAdvance := by
  obtain ⟨m, _, _, advanced, h⟩ | ⟨k, -, h⟩ := emitsOnlyDevice_unitClosed.timerWAdvance s
  · rw [h]
    obtain h' | ⟨-, h'⟩ := m.twDeliver_cases _ _
    · rwa [h']
    · rw [h']
      exact advanced.trans (emitsOnlyDevice_of_same rfl rfl rfl)
  · rw [h]
    exact emitsOnlyDevice_of_same rfl rfl rfl

/-- A tick is its five units, which emit for the devices only, and the two stages of the display. -/
theorem tick_emits (s : State) (k : Nat) : ∃ m f, s.emitsOnlyDevice m
    ∧ runsIfDue m f k s.cfg.displayPeriod State.lcdEmit
    ∧ runsIfDue f (s.tick k) k s.cfg.displayPeriod State.audioEmit := by
  obtain ⟨s₁, s₂, s₃, s₄, s₅, s₆, r₁, r₂, r₃, r₄, r₅, r₆, r₇⟩ := tick_stages s k
  have step {m t : State} {period : Nat} {unit : State → State} (h : s.emitsOnlyDevice m)
      (stage : runsIfDue m t k period unit) (hunit : m.emitsOnlyDevice (unit m)) : s.emitsOnlyDevice t :=
    h.trans (stage.keeps (emitsOnlyDevice_unitClosed.refl m) hunit)
  have h₁ := step (emitsOnlyDevice_unitClosed.refl s) r₁
    (emitsOnlyDevice_of_unit_or_raise (emitsOnlyDevice_unitClosed.ssuTick s))
  have h₂ := step h₁ r₂ (emitsOnlyDevice_unitClosed.sciTick s₁)
  have h₃ := step h₂ r₃ (emitsOnlyDevice_of_unit_or_raise (emitsOnlyDevice_unitClosed.timerB1Advance s₂))
  have h₄ := step h₃ r₄ (emitsOnlyDevice_timerWAdvance s₃)
  exact ⟨s₅, s₆, step h₄ r₅ (emitsOnlyDevice_unitClosed.rtcTick s₄), r₆, r₇⟩

theorem tick_cycleIndex (s : State) (k : Nat) : (s.tick k).cycleIndex = s.cycleIndex := by
  obtain ⟨m, f, ⟨-, cycle, -⟩, frame, tone⟩ := tick_emits s k
  have frame_cycle := frame.keeps (R := fun m t => t.cycleIndex = m.cycleIndex) rfl rfl
  have tone_cycle := tone.keeps (R := fun m t => t.cycleIndex = m.cycleIndex) rfl rfl
  rw [tone_cycle, frame_cycle, cycle]

/-- Ticks that end without a fault are counted (`60_exceptions.md` rule R1140). -/
theorem ticks_cycleIndex (n : Nat) (h : (State.ticks n s).fault = none) :
    (State.ticks n s).cycleIndex = s.cycleIndex + n := by
  induction n with
  | zero => rfl
  | succ n ih =>
    rw [ticks_succ'] at h ⊢
    cases hm : (State.ticks n s).fault with
    | some f =>
      rw [if_pos (by simp [State.faulted, hm]), hm] at h
      exact nomatch h
    | none =>
      rw [if_neg (State.not_faulted_iff.2 hm)] at h ⊢
      cases ht : ((State.ticks n s).tick (State.ticks n s).cycleIndex).fault with
      | some f =>
        rw [tickOnce_of_faulted (by simp [ht]), ht] at h
        exact nomatch h
      | none =>
        rw [tickOnce_of_running ht]
        show ((State.ticks n s).tick _).cycleIndex + 1 = _
        rw [tick_cycleIndex, ih hm, Nat.add_assoc]

theorem State.audioFreq_of_running (hr : s.twRunning = true) (hg : (s.raw16 s.cfg.io.twGra).toNat ≠ 0) :
    s.audioFreq * ((s.raw16 s.cfg.io.twGra).toNat : Rat) = 31500 := by
  have gra : s.raw16 s.cfg.io.twGra ≠ 0 := fun h => hg (by rw [h]; rfl)
  have nonzero : ((s.raw16 s.cfg.io.twGra).toNat : Rat) ≠ 0 := Nat.cast_ne_zero.2 hg
  have condition : (s.twRunning && s.raw16 s.cfg.io.twGra != 0) = true := by rw [hr, bne_iff_ne.2 gra]; rfl
  unfold State.audioFreq
  dsimp only
  rw [if_pos condition, div_mul_cancel₀ _ nonzero]

theorem State.audioFreq_of_silent (h : s.twRunning = false ∨ (s.raw16 s.cfg.io.twGra).toNat = 0) : s.audioFreq = 0 := by
  refine if_neg ?_
  obtain stopped | zero := h
  · simp [stopped]
  · have gra : s.raw16 s.cfg.io.twGra = 0 := BitVec.eq_of_toNat_eq zero
    simp [gra]

/-- Settles O59: the stages of a tick, ticks in a row, and what the stages of the display append. -/
theorem ticksRunUnitsAndEmit : Obligations.TicksRunUnitsAndEmit := by
  refine ⟨?_, fun s => ⟨rfl, ?_⟩, ?_⟩
  · rintro s _ k rfl
    exact tick_stages s k
  · rintro n _ _ rfl rfl
    have goes (hm : (State.ticks n s).fault = none) : State.ticks (n + 1) s = (State.ticks n s).tickOnce := by
      rw [ticks_succ', if_neg (State.not_faulted_iff.2 hm)]
    refine ⟨fun hm => ?_, fun hm ht => ?_, fun hm ht => ?_⟩
    · rw [ticks_succ', if_pos (State.faulted_iff.2 hm)]
    · rw [← ticks_cycleIndex n hm] at ht ⊢
      rw [goes hm, tickOnce_of_faulted ht]
    · rw [← ticks_cycleIndex n hm] at ht ⊢
      rw [goes hm, tickOnce_of_running ht, tick_cycleIndex]
  · rintro s _ k rfl running
    obtain ⟨m, f, ⟨-, -, l, out, device⟩, frame, tone⟩ := tick_emits s k
    refine ⟨fun due => ?_, fun notDue => ⟨l, ?_, device⟩⟩
    · have toned := tone.runs due running
      have framed := frame.runs due (tone.running running)
      subst framed
      rw [toned]
      refine ⟨l, m.audioFreq, m.audioVolume, ?_, device, m.audioFreq_of_running, m.audioFreq_of_silent,
        fun equal => if_pos equal, ?_⟩
      · show m.out ++ [_] ++ [_] = _
        rw [out, List.append_assoc (s.out ++ l)]
        rfl
      · intro unequal
        have volume : m.audioVolume = 1 / 4 := if_neg unequal
        rw [volume]
        norm_num
    · rw [tone.off notDue, frame.off notDue, out]

/-! ### Host inputs -/

/-- An input changes memory, sleep, the queues and the stop request. -/
theorem applyInput_changes (s : State) (i : HostInput) :
    s.applyInput i = { s with mem := (s.applyInput i).mem, sleep := (s.applyInput i).sleep,
                              irRx := (s.applyInput i).irRx, wallQueue := (s.applyInput i).wallQueue,
                              stopRequested := (s.applyInput i).stopRequested } := by
  cases i with
  | pushKey k =>
    simp only [State.applyInput]
    unfold State.pushKey
    exact ite_state (R := fun s t => t = { s with mem := t.mem, sleep := t.sleep, irRx := t.irRx,
                                                  wallQueue := t.wallQueue, stopRequested := t.stopRequested }) rfl rfl
  | irReceive b => rfl
  | wallReading w => rfl
  | stop => rfl

theorem applyInputs_changes (batch : List HostInput) (s : State) :
    ∃ mem sleep irRx wallQueue stopRequested, batch.foldl State.applyInput s
      = { s with mem := mem, sleep := sleep, irRx := irRx, wallQueue := wallQueue,
                 stopRequested := stopRequested } := by
  induction batch generalizing s with
  | nil => exact ⟨_, _, _, _, _, rfl⟩
  | cons i batch ih =>
    obtain ⟨mem, sleep, irRx, wallQueue, stopRequested, h⟩ := ih (s.applyInput i)
    refine ⟨mem, sleep, irRx, wallQueue, stopRequested, ?_⟩
    rw [List.foldl_cons, h, applyInput_changes s i]

/-- Taking the inputs of a pass leaves the registers, pc, the flags and the counters. -/
theorem takeInputs_changes (s : State) :
    ∃ mem sleep irRx wallQueue stopRequested, s.takeInputs
      = { s with mem := mem, sleep := sleep, irRx := irRx, wallQueue := wallQueue, stopRequested := stopRequested,
                 inputs := s.inputs.tail } := by
  unfold State.takeInputs
  split
  case h_1 none =>
    refine ⟨s.mem, s.sleep, s.irRx, s.wallQueue, s.stopRequested, ?_⟩
    have tail : s.inputs.tail = s.inputs := by rw [none]; rfl
    rw [tail]
  case h_2 batch rest some =>
    rw [some]
    exact applyInputs_changes batch _

/-! ### Asleep (`60_exceptions.md` rules R1006, R1110, R1140) -/

/-- `t` is `s` but for what ticks may change while I is set. -/
def State.atRest (s t : State) : Prop :=
  ∃ k, { s with cycleIndex := k }.sameCpu t

theorem State.atRest.trans (h₁ : s.atRest m) (h₂ : m.atRest t) : s.atRest t := by
  obtain ⟨k₁, h₁⟩ := h₁
  obtain ⟨k₂, h₂⟩ := h₂
  refine ⟨k₂, ?_⟩
  unfold State.sameCpu at *
  rw [h₂, h₁]

theorem State.sameCpu.atRest (h : s.sameCpu t) : s.atRest t := ⟨s.cycleIndex, h⟩

theorem State.atRest.refl (s : State) : s.atRest s := State.sameCpu.atRest rfl

theorem State.atRest.ccr_eq (h : s.atRest t) : t.ccr = s.ccr := by
  obtain ⟨_, h⟩ := h
  exact h.ccr_eq

/-- While I is set, ticks leave the machine at rest. -/
theorem atRest_ticks (hi : s.ccr.i = true) (n : Nat) : s.atRest (State.ticks n s) := by
  induction n generalizing s with
  | zero => exact .refl s
  | succ n ih =>
    by_cases hf : s.fault = none
    · have ticked := sameCpu_tick hi s.cycleIndex
      have once : s.atRest s.tickOnce := by
        by_cases h : (s.tick s.cycleIndex).fault = none
        · rw [tickOnce_of_running h]
          exact ticked.atRest.trans ⟨(s.tick s.cycleIndex).cycleIndex + 1, .refl _⟩
        · rw [tickOnce_of_faulted h]
          exact ticked.atRest
      rw [ticks_succ_of_running n hf]
      exact once.trans (ih (by rwa [once.ccr_eq]))
    · rw [ticks_of_faulted _ hf]
      exact .refl s

/-- With I set, an input other than stop leaves the machine at rest. -/
theorem sameCpu_applyInput (hi : s.ccr.i = true) {i : HostInput} (notStop : i ≠ .stop) :
    s.sameCpu (s.applyInput i) := by
  cases i with
  | stop => exact absurd rfl notStop
  | irReceive b => rfl
  | wallReading w => rfl
  | pushKey k =>
    have pushed : s.applyInput (.pushKey k) = s.rawSet s.cfg.io.keyPort k := if_neg (by simp [hi])
    rw [pushed]
    rfl

theorem sameCpu_applyInputs (hi : s.ccr.i = true) {batch : List HostInput} (noStop : HostInput.stop ∉ batch) :
    s.sameCpu (batch.foldl State.applyInput s) := by
  induction batch generalizing s with
  | nil => rfl
  | cons i batch ih =>
    have first := sameCpu_applyInput hi (i := i) (by rintro rfl; exact noStop List.mem_cons_self)
    exact first.trans (ih (by rwa [first.ccr_eq]) fun h => noStop (List.mem_cons_of_mem _ h))

theorem sameCpu_takeInputs (hi : s.ccr.i = true) (noStop : ∀ batch ∈ s.inputs, HostInput.stop ∉ batch) :
    { s with inputs := s.inputs.tail }.sameCpu s.takeInputs := by
  unfold State.takeInputs
  split
  case h_1 none =>
    have tail : s.inputs.tail = s.inputs := by rw [none]; rfl
    rw [tail]
    rfl
  case h_2 batch rest some =>
    rw [some] at noStop ⊢
    exact sameCpu_applyInputs (s := { s with inputs := rest }) hi (noStop batch List.mem_cons_self)

/-- A pass of a machine that sleeps with I set and sees no stop request. -/
theorem step_asleep (running : s.running) (asleep : s.sleep = true) (hi : s.ccr.i = true)
    (notStopped : s.stopRequested = false) (noStop : ∀ batch ∈ s.inputs, HostInput.stop ∉ batch) :
    ∃ m, step s = .next m ∧ { s with inputs := s.inputs.tail }.atRest m
      ∧ (m.fault = none → m.cycleIndex = s.cycleIndex + s.cfg.sleepIdleCycles) := by
  have taken := sameCpu_takeInputs hi noStop
  have eq := taken
  unfold State.sameCpu at eq
  have masked : s.takeInputs.ccr.i = true := by rw [eq]; exact hi
  have idle : s.takeInputs.idle = State.ticks s.cfg.sleepIdleCycles s.takeInputs := by
    rw [State.idle, State.interruptCheck_masked masked, eq]
  refine ⟨State.ticks s.cfg.sleepIdleCycles s.takeInputs, ?_, taken.atRest.trans (atRest_ticks masked _), fun h => ?_⟩
  · have stop : s.takeInputs.stopRequested = false := by rw [eq]; exact notStopped
    have sleep : s.takeInputs.sleep = true := by rw [eq]; exact asleep
    rw [step_of_running running, stop, sleep, ← idle]
    rfl
  · rw [ticks_cycleIndex _ h, eq]

/-- A machine that sleeps with I set idles for ever, or up to a fault of a unit. -/
theorem steps_asleep (k : Nat) (s : State) (notEnded : s.runEnded = false) (asleep : s.sleep = true)
    (hi : s.ccr.i = true) (notStopped : s.stopRequested = false)
    (noStop : ∀ batch ∈ s.inputs, HostInput.stop ∉ batch) :
    ∃ t, stepsTo k s t ∧ (∃ l, { s with inputs := l }.atRest t)
      ∧ (t.fault = none → s.fault = none ∧ t.cycleIndex = s.cycleIndex + k * s.cfg.sleepIdleCycles) := by
  induction k generalizing s with
  | zero => exact ⟨s, rfl, ⟨_, .refl s⟩, fun h => ⟨h, by simp⟩⟩
  | succ k ih =>
    by_cases hf : s.fault = none
    · obtain ⟨m, hstep, ⟨cycle, rest⟩, counted⟩ := step_asleep ⟨hf, notEnded⟩ asleep hi notStopped noStop
      unfold State.sameCpu at rest
      obtain ⟨t, steps, ⟨l, rest'⟩, counted'⟩ := ih m (by rw [rest]; exact notEnded) (by rw [rest]; exact asleep)
        (by rw [rest]; exact hi) (by rw [rest]; exact notStopped)
        (by rw [rest]; exact fun batch h => noStop batch (List.mem_of_mem_tail h))
      refine ⟨t, ⟨m, hstep, steps⟩, ⟨l, ?_⟩, fun ht => ⟨hf, ?_⟩⟩
      · refine State.atRest.trans ⟨cycle, ?_⟩ rest'
        unfold State.sameCpu
        rw [rest]
      · obtain ⟨hm, cycles⟩ := counted' ht
        have cfg : m.cfg = s.cfg := by rw [rest]
        rw [cycles, counted hm, cfg, Nat.succ_mul, Nat.add_assoc, Nat.add_comm s.cfg.sleepIdleCycles]
    · obtain ⟨t, steps, rest, counted⟩ := ih s notEnded asleep hi notStopped noStop
      exact ⟨t, ⟨s, step_of_faulted notEnded hf, steps⟩, rest, fun ht => absurd (counted ht).1 hf⟩

/-! ### Waking (`60_exceptions.md` rules R1110, R1120) -/

theorem readWall_changes (s : State) :
    s.readWall.2 = { s with wallNow := s.readWall.2.wallNow, wallQueue := s.readWall.2.wallQueue } := by
  obtain h | ⟨_, _, -, h⟩ := s.readWall_cases <;> rw [h]

theorem rtcStarted_changes (s : State) :
    s.rtcStarted = { s with rtcInit := s.rtcStarted.rtcInit, rtcQuarter := s.rtcStarted.rtcQuarter,
                            rtcPrev := s.rtcStarted.rtcPrev, wallNow := s.rtcStarted.wallNow,
                            wallQueue := s.rtcStarted.wallQueue } := by
  unfold State.rtcStarted
  split
  · rfl
  · unfold State.rtcInitialise
    dsimp only
    rw [readWall_changes]

/-- With I clear and a source that requests, the check enters that source's interrupt. -/
theorem interruptCheck_of_request (hi : s.ccr.i = false) (src : Source) (mem : src ∈ sources s.cfg)
    (requests : s.requests src = true) : ∃ vec, s.interruptCheck = s.rtcStarted.interrupt vec := by
  have found : s.takenSource.isSome = true := List.find?_isSome.2 ⟨src, mem, requests⟩
  obtain ⟨taken, h⟩ := Option.isSome_iff_exists.1 found
  exact ⟨taken.2.2, by rw [State.interruptCheck_open hi, h]; rfl⟩

/-- Settles O45: `steps_asleep`, and the interrupt that the check enters, whose I keeps it through the ticks. -/
theorem sleepingSteps : Obligations.SleepingSteps := by
  refine ⟨fun s k running asleep hi notStopped noStop => ?_, ?_⟩
  · obtain ⟨t, steps, ⟨_, _, rest⟩, counted⟩ := steps_asleep k s running.2 asleep hi notStopped noStop
    unfold State.sameCpu at rest
    refine ⟨t, steps, ?_, ?_, ?_, ?_, ?_, ?_, ?_, ?_, fun h => (counted h).2⟩
    · rw [rest]
      exact asleep
    all_goals rw [rest]
  · rintro s _ running rfl notStopped asleep
    obtain ⟨mem, sleep, irRx, wallQueue, stopRequested, taken⟩ := takeInputs_changes s
    have cfg : s.takeInputs.cfg = s.cfg := by rw [taken]
    have idles : step s = .next (State.ticks s.cfg.sleepIdleCycles s.takeInputs.interruptCheck) := by
      rw [step_of_running running, notStopped, asleep, ← cfg]
      rfl
    refine ⟨idles, fun hi ⟨src, listed, flag, enable⟩ => ⟨_, idles, ?_⟩⟩
    have listed' : src ∈ (sources s.takeInputs.cfg).map fun x => (x.1, x.2.1) := by rwa [cfg]
    obtain ⟨source, mem_sources, rfl⟩ := List.mem_map.1 listed'
    obtain ⟨vec, entered⟩ := interruptCheck_of_request hi source mem_sources (by simp [State.requests, flag, enable])
    rw [rtcStarted_changes] at entered
    generalize s.takeInputs.interruptCheck = m at *
    obtain ⟨_, rest⟩ := atRest_ticks (s := m) (by rw [entered]; rfl) s.cfg.sleepIdleCycles
    unfold State.sameCpu at rest
    rw [rest, entered, taken]
    exact ⟨rfl, rfl, rfl, rfl, rfl, rfl, rfl⟩

end
end Sys2Proof.Machine
end

section
/-! SUPPORT. Host inputs, the key acknowledge and the patches; construction from the images. From these, the statements
on inputs and keys and on construction. -/

namespace Sys2Proof.Machine
set_option Elab.async false

/-! ### Keys (`60_exceptions.md` rules R1270, R1271) -/

/-- The flag that the wake key raises. -/
def keyFlag (c : Config) : BitLoc :=
  match c.keyIrq with
  | .irq0 => c.io.flagIrq0
  | .irq1 => c.io.flagIrq1

theorem State.pushKey_of_masked_or_other {s : State} {k : Byte} (h : s.ccr.i = true ∨ k ≠ s.cfg.wakeKey) :
    s.pushKey k = s.rawSet s.cfg.io.keyPort k := by
  refine if_neg fun ⟨wake, open_⟩ => ?_
  obtain masked | other := h
  · rw [masked] at open_
    exact nomatch open_
  · exact other wake

theorem State.pushKey_of_wake {s : State} {k : Byte} (hi : s.ccr.i = false) (hk : k = s.cfg.wakeKey) :
    s.pushKey k
      = { (s.rawSet s.cfg.io.keyPort k).setBit (keyFlag s.cfg) true with sleep := false } :=
  if_pos ⟨hk, hi⟩

/-- The key port is no flag of the keys' interrupts. -/
theorem keyPort_ne_flag {c : Config} (hv : c.valid = true) : c.io.keyPort ≠ (keyFlag c).addr := by
  have io := Config.io_valid hv
  unfold keyFlag
  cases c.keyIrq with
  | irq0 =>
    have disjoint := IoMap.disjoint_of_valid io (i := 3) (j := 45) (by decide) rfl rfl
    exact addr_ne_of_disjoint (Piece.disjoint_comm _ _ ▸ disjoint)
  | irq1 =>
    have disjoint := IoMap.disjoint_of_valid io (i := 4) (j := 45) (by decide) rfl rfl
    exact addr_ne_of_disjoint (Piece.disjoint_comm _ _ ▸ disjoint)

/-- The wake key with I clear: the port and the flag are written, and sleep ends. -/
theorem wakeKey_effect {s t : State} {k : Byte} (hi : s.ccr.i = false) (hk : k = s.cfg.wakeKey)
    (hv : s.cfg.valid = true) (ht : t = s.pushKey k) :
    t.raw s.cfg.io.keyPort = k ∧ t.bit (keyFlag s.cfg) = true
      ∧ s.keepsBut t [s.cfg.io.keyPort] [keyFlag s.cfg] ∧ t = { s with mem := t.mem, sleep := false } := by
  rw [State.pushKey_of_wake hi hk] at ht
  have mem : t.mem = ((s.rawSet s.cfg.io.keyPort k).setBit (keyFlag s.cfg) true).mem := by rw [ht]
  have raw : t.raw = ((s.rawSet s.cfg.io.keyPort k).setBit (keyFlag s.cfg) true).raw := by
    unfold State.raw
    rw [mem]
  refine ⟨?_, ?_, State.keepsBut.congr (.trans (State.keepsBut_rawSet s k _ (by simp))
    (State.keepsBut_setBit _ true _ (by simp))) mem, ?_⟩
  · rw [raw, State.raw_setBit, if_neg (keyPort_ne_flag hv), State.raw_rawSet, if_pos rfl]
  · rw [State.bit_congr (s := (s.rawSet s.cfg.io.keyPort k).setBit (keyFlag s.cfg) true) _ (by rw [raw]),
      State.bit_setBit_self]
  · rw [ht]
    rfl

/-! ### Patches (`60_exceptions.md` rule R1272) -/

theorem applyPcPatch_of_first {s : State} {before after : List PcPatch} {e : PcPatch}
    (list : s.cfg.pcPatches = before ++ e :: after) (first : ∀ e' ∈ before, e'.addr ≠ s.pc) (here : e.addr = s.pc) :
    s.applyPcPatch = (s.writeView e.write).setPc (s.pc + BitVec.ofInt 16 e.delta) := by
  have none_before : before.find? (fun e => e.addr == s.pc) = none := by simpa using first
  have found : s.cfg.pcPatches.find? (fun e => e.addr == s.pc) = some e := by
    rw [list, List.find?_append, none_before, Option.none_or, List.find?_cons_of_pos (by simpa using here)]
  rw [State.applyPcPatch, found]

theorem toInt_moved_pc (pc : Addr) (delta : Int) :
    ((pc + BitVec.ofInt 16 delta).toNat : Int) = (pc.toNat + delta) % 65536 := by
  rw [BitVec.toNat_add, BitVec.toNat_ofInt]
  omega

theorem writeView_changes (s : State) (w : Option ViewWrite) :
    s.writeView w = { s with regs := (s.writeView w).regs } := by
  unfold State.writeView
  split <;> rfl

/-- Settles O60: the inputs as they are applied, the key acknowledge, and the first patch of the list that has pc. -/
theorem hostInputsAndKeys : Obligations.HostInputsAndKeys := by
  intro s
  refine ⟨?_, fun _ => rfl, fun _ => rfl, rfl, fun batch rest h => ?_, fun h => ?_, fun h => ?_, keyAck_of_ne,
    applyPcPatch_of_none, ?_⟩
  · rintro k _ rfl
    refine ⟨fun quiet => ?_, fun hi hk hv => ⟨keyFlag s.cfg, ?_, ?_, wakeKey_effect hi hk hv rfl⟩⟩
    · have pushed : s.applyInput (.pushKey k) = s.rawSet s.cfg.io.keyPort k := State.pushKey_of_masked_or_other quiet
      rw [pushed]
      exact ⟨fun x => State.raw_rawSet s _ x k, rfl⟩
    · intro irq
      simp only [keyFlag, irq]
    · intro irq
      simp only [keyFlag, irq]
  · rw [State.takeInputs, h]
  · rw [State.takeInputs, h]
  · have acknowledged : s.keyAck = s.rawSet s.cfg.io.keyPort s.cfg.keyNeutral := if_pos h
    rw [acknowledged]
    exact ⟨fun x => State.raw_rawSet s _ x _, rfl⟩
  · rintro before e after _ list first here rfl
    rw [applyPcPatch_of_first list first here]
    refine ⟨toInt_moved_pc _ _, ?_, fun h => ?_, fun r v h => ?_, fun r v h => ?_, fun r v h => ?_⟩
    · rw [writeView_changes]
      rfl
    · rw [h]
      rfl
    · rw [h]
      exact ⟨(State.get8_set8 s r r v).trans (if_pos rfl), onlyByte_set8 s r v⟩
    · rw [h]
      exact ⟨(State.get16_set16 s r r v).trans (if_pos rfl), onlyHalf_set16 s r v⟩
    · rw [h]
      exact ⟨(State.get32_set32 s r r v).trans (if_pos rfl), onlyLong_set32 s r v⟩

/-! ### Images (`70_reset_and_hazards.md` rule R1301) -/

section
variable {d : Byte} {bound k : Nat}

theorem wfFrom_imageFrom (a : Nat) (bs : List Byte) : Memory.wfFrom d bound a (imageFrom d bound a bs) = true := by
  induction bs generalizing a with
  | nil => rfl
  | cons b bs ih =>
    have rest := ih (a + 1)
    unfold imageFrom
    split
    case isFalse => rfl
    case isTrue inside =>
      split
      case isTrue => exact Memory.wfFrom_mono (Nat.le_succ a) rest
      case isFalse stored => simpa [Memory.wfFrom, inside, stored] using rest

/-- An image read below its bound: the byte of the list, or the value that is not listed. -/
theorem read_imageFrom (a : Nat) (bs : List Byte) (hk : k < bound) :
    (imageFrom d bound a bs).read d k = if k < a then d else bs.getD (k - a) d := by
  induction bs generalizing a with
  | nil => simp [imageFrom, Memory.read]
  | cons b bs ih =>
    have tail : a < k → (b :: bs).getD (k - a) d = bs.getD (k - (a + 1)) d := fun h => by
      rw [show k - a = (k - (a + 1)) + 1 by omega]
      rfl
    unfold imageFrom
    obtain below | rfl | above := Nat.lt_trichotomy k a
    · have rest : (imageFrom d bound (a + 1) bs).read d k = d := (ih (a + 1)).trans (if_pos (by omega))
      rw [if_pos below]
      split
      · split
        · exact rest
        · exact (if_neg (by omega)).trans rest
      · rfl
    · have rest : (imageFrom d bound (k + 1) bs).read d k = d := (ih (k + 1)).trans (if_pos (Nat.lt_succ_self k))
      rw [if_pos hk, if_neg (Nat.lt_irrefl k), Nat.sub_self]
      split
      case isTrue listed => exact rest.trans listed.symm
      case isFalse => exact if_pos rfl
    · have rest := (ih (a + 1)).trans (if_neg (by omega))
      rw [if_pos (show a < bound by omega), if_neg (show ¬ k < a by omega), tail above]
      split
      · exact rest
      · exact (if_neg (by omega)).trans rest

end

theorem romMemory_byte (rom : List Byte) (a : Addr) : (romMemory rom).byte a = rom.getD a.toNat 0x00 :=
  (read_imageFrom 0 rom a.isLt).trans (if_neg (Nat.not_lt_zero _))

/-- The EEPROM's image is padded with 00 up to its size. -/
theorem eepromMemory_read (img : List Byte) (a : Addr) :
    (eepromMemory (some img)).read eepErased a.toNat = img.getD a.toNat 0x00 := by
  refine ((read_imageFrom 0 _ a.isLt).trans (if_neg (Nat.not_lt_zero _))).trans ?_
  have size : a.toNat < 65536 := a.isLt
  rw [Nat.sub_zero, List.getD_eq_getElem?_getD, List.getD_eq_getElem?_getD]
  by_cases inside : a.toNat < img.length
  · rw [List.getElem?_append_left inside]
    simp [inside]
  · rw [List.getElem?_append_right (by omega), List.getElem?_replicate_of_lt (by omega)]
    simp [List.getElem?_eq_none (Nat.le_of_not_lt inside)]

theorem eepromMemory_wf (img : Option (List Byte)) : (eepromMemory img).wfFor eepErased 65536 = true := by
  cases img with
  | none => rfl
  | some img => exact wfFrom_imageFrom 0 _

theorem Config.accelInit_length {c : Config} (hv : c.valid = true) : c.accelInit.length = c.accelSize := by
  simp only [Config.valid, Bool.and_eq_true, beq_iff_eq] at hv
  tauto

/-- Settles O1: what construction puts in each field. -/
theorem constructionLoadsTheImages : Obligations.ConstructionLoadsTheImages := by
  intro cfg rom eep d
  unfold State.construct
  cases hv : cfg.valid with
  | false => exact ⟨by simp, fun s h => nomatch h⟩
  | true =>
    refine ⟨by simp, fun s h => ?_⟩
    rw [if_pos rfl] at h
    obtain rfl := Option.some.inj h
    refine ⟨romMemory_byte rom, ?_, ?_, ?_, rfl, rfl, rfl, rfl, rfl, rfl, rfl, rfl, rfl, rfl, rfl, rfl, rfl, rfl, rfl,
      rfl, rfl, ?_⟩
    · rintro img rfl a
      exact eepromMemory_read img a
    · rintro rfl a
      rfl
    · have vector (a : Addr) := romMemory_byte rom a
      show BitVec.toNat ((romMemory rom).byte 0 ++ (romMemory rom).byte 1) = _
      rw [vector, vector, BitVec.toNat_append]
      rw [← Nat.shiftLeft_add_eq_or_of_lt (BitVec.isLt _), Nat.shiftLeft_eq, Nat.mul_comm]
      rfl
    · simp only [State.inv, State.storesWf, State.faultRecordOk, State.countersOk, Bool.and_eq_true, beq_iff_eq]
      exact ⟨⟨⟨⟨⟨wfFrom_imageFrom 0 rom, eepromMemory_wf eep⟩, wfFrom_imageFrom 0 d.fb⟩, Config.accelInit_length hv⟩,
        trivial⟩, rfl, rfl⟩

end Sys2Proof.Machine
end

section
/-! SUPPORT. The carries of ADDX and SUBX, exact products, quotients and remainders, and
extension. From these, the statements on ADDX, SUBX, multiplication, division and extension. -/

namespace Sys2Proof.Machine
set_option Elab.async false

/-! ### ADDX and SUBX (`41_arithmetic.md` rules R506, R513, R522) -/

theorem carryNat_eq (c : Bool) : carryNat c = if c then 1 else 0 := rfl

theorem carryNat_le (c : Bool) : carryNat c ≤ 1 := by cases c <;> decide

theorem byte_msb_iff (b : Byte) : b.msb = true ↔ 128 ≤ b.toNat := by simp [BitVec.msb_eq_decide]

theorem byte_toInt_eq (b : Byte) : b.toInt = if b.msb then (b.toNat : Int) - 256 else b.toNat := by
  simp [BitVec.toInt_eq_msb_cond]

theorem addxResult_toNat (a b : Byte) (c : Bool) :
    (addxResult a b c).toNat = (a.toNat + b.toNat + carryNat c) % 256 := BitVec.toNat_ofNat ..

theorem subxResult_eq_ofInt (a b : Byte) (c : Bool) :
    subxResult a b c = BitVec.ofInt 8 (a.toNat - b.toNat - carryNat c) := by
  have value (x : Byte) : BitVec.ofInt 8 x.toNat = x := by simp
  have carry : BitVec.ofInt 8 (carryNat c) = BitVec.ofNat 8 (carryNat c) := BitVec.ofInt_natCast ..
  rw [Int.sub_eq_add_neg, Int.sub_eq_add_neg, BitVec.ofInt_add, BitVec.ofInt_add, BitVec.ofInt_neg, BitVec.ofInt_neg,
    value, value, carry, ← BitVec.sub_eq_add_neg, ← BitVec.sub_eq_add_neg]
  rfl

theorem subxResult_toNat (a b : Byte) (c : Bool) :
    ((subxResult a b c).toNat : Int) = (a.toNat - b.toNat - carryNat c : Int) % 256 := by
  rw [subxResult_eq_ofInt, BitVec.toNat_ofInt]
  omega

/-- V of ADDX: the sign formula of rule R133 with the carry in the sum. -/
theorem addxSigns_iff_outOfRange (a b : Byte) (c : Bool) :
    (~~~(a ^^^ b) &&& (a ^^^ addxResult a b c)).msb = true ↔ outOfRange 8 (a.toInt + b.toInt + carryNat c) := by
  have carry := carryNat_le c
  have sum := addxResult_toNat a b c
  have sign_a := byte_msb_iff a
  have sign_b := byte_msb_iff b
  have sign_r := byte_msb_iff (addxResult a b c)
  have size_a : a.toNat < 256 := a.isLt
  have size_b : b.toNat < 256 := b.isLt
  rw [BitVec.msb_and, BitVec.msb_not, BitVec.msb_xor, BitVec.msb_xor, byte_toInt_eq, byte_toInt_eq, outOfRange]
  cases ha : a.msb <;> cases hb : b.msb <;> cases hr : (addxResult a b c).msb <;> simp [ha, hb, hr] at * <;> omega

/-- V of SUBX: the sign formula of rule R134 with the carry in the difference. -/
theorem subxSigns_iff_outOfRange (a b : Byte) (c : Bool) :
    ((a ^^^ b) &&& (a ^^^ subxResult a b c)).msb = true ↔ outOfRange 8 (a.toInt - b.toInt - carryNat c) := by
  have carry := carryNat_le c
  have difference := subxResult_toNat a b c
  have sign_a := byte_msb_iff a
  have sign_b := byte_msb_iff b
  have sign_r := byte_msb_iff (subxResult a b c)
  have size_a : a.toNat < 256 := a.isLt
  have size_b : b.toNat < 256 := b.isLt
  rw [BitVec.msb_and, BitVec.msb_xor, BitVec.msb_xor, byte_toInt_eq, byte_toInt_eq, outOfRange]
  cases ha : a.msb <;> cases hb : b.msb <;> cases hr : (subxResult a b c).msb <;> simp [ha, hb, hr] at * <;> omega

theorem byte_beq_zero_iff (b : Byte) : (b == 0) = true ↔ b.toNat = 0 := beq_zero_iff_toNat b

/-- Settles O19: both operand forms are `addxTo` or `subxFrom`, whose flags are the facts above. -/
theorem addxSubxResults : Obligations.AddxSubxResults := by
  rintro s i rd b _ rfl
  rw [← carryNat_eq]
  constructor
  · intro form
    have executed : exec i s = .next (addxTo rd b s) := by
      obtain rfl | ⟨rs, rfl, rfl⟩ := form <;> rfl
    rw [executed]
    refine vB_answersByte s rd _ (addxFlags (s.get8 rd) b) _ ⟨decide_eq_true_iff, decide_eq_true_iff,
      addxSigns_iff_outOfRange _ _ _, ?_, ?_, rfl, rfl, rfl⟩
    · exact (byte_msb_iff _).trans (by rw [addxResult_toNat])
    · exact Bool.and_eq_true_iff.trans (and_congr_right' ((byte_beq_zero_iff _).trans (by rw [addxResult_toNat])))
  · intro form
    have executed : exec i s = .next (subxFrom rd b s) := by
      obtain rfl | ⟨rs, rfl, rfl⟩ := form <;> rfl
    rw [executed, ← subxResult_eq_ofInt]
    refine vB_answersByte s rd _ (subxFlags (s.get8 rd) b) _ ⟨decide_eq_true_iff, decide_eq_true_iff,
      subxSigns_iff_outOfRange _ _ _, ?_, ?_, rfl, rfl, rfl⟩
    · refine (byte_msb_iff _).trans ?_
      rw [← subxResult_toNat]
      exact Int.ofNat_le.symm
    · refine Bool.and_eq_true_iff.trans (and_congr_right' ((byte_beq_zero_iff _).trans ?_))
      rw [← subxResult_toNat]
      exact Int.natCast_eq_zero.symm

/-! ### Products (`41_arithmetic.md` rules R534-R537) -/

/-- A product of two values of `m` bits fits in `m + m` bits. -/
theorem toNat_ofNat_mul {m : Nat} (x y : BitVec m) :
    (BitVec.ofNat (m + m) (x.toNat * y.toNat)).toNat = x.toNat * y.toNat := by
  rw [BitVec.toNat_ofNat, Nat.pow_add]
  exact Nat.mod_eq_of_lt (Nat.mul_lt_mul'' x.isLt y.isLt)

/-- A signed product of two values of `m` bits fits in `m + m` bits. -/
theorem toInt_ofInt_mul {m : Nat} (hm : 0 < m) (x y : BitVec m) :
    (BitVec.ofInt (m + m) (x.toInt * y.toInt)).toInt = x.toInt * y.toInt := by
  have fits : (2 : Int) ^ (m * 2 - 2) < 2 ^ (m + m - 1) := pow_lt_pow_right₀ (by decide) (by omega)
  have upper := BitVec.toInt_mul_toInt_le (x := x) (y := y)
  have lower := BitVec.le_toInt_mul_toInt (x := x) (y := y)
  exact BitVec.toInt_ofInt_eq_self (by omega) (by omega) (by omega)

theorem State.setFlags_id (s : State) : s.setFlags id = s := rfl

section
variable {m : Nat} {dst : View (m + m)} {answers : AnswersAt (m + m)}

theorem View.Answers.multiplyU (h : dst.Answers answers) (src : View m) (s : State) (rs rd : BitVec 4) :
    ∃ v, v.toNat = (dst.get s rd).toNat % 2 ^ m * (src.get s rs).toNat
      ∧ answers s (.next (multiplyU dst src rs rd s)) rd v (· = s.ccr) := by
  have exact_product := toNat_ofNat_mul ((dst.get s rd).setWidth m) (src.get s rs)
  have low : ((dst.get s rd).setWidth m).toNat = (dst.get s rd).toNat % 2 ^ m := BitVec.toNat_setWidth ..
  refine ⟨BitVec.ofNat (m + m) (((dst.get s rd).setWidth m).toNat * (src.get s rs).toNat),
    by rw [exact_product, low], ?_⟩
  have answered := h s rd (BitVec.ofNat (m + m) (((dst.get s rd).setWidth m).toNat * (src.get s rs).toNat)) id
    (· = s.ccr) rfl
  rwa [State.setFlags_id] at answered

theorem View.Answers.multiplyS (h : dst.Answers answers) (hm : 0 < m) (src : View m) (s : State) (rs rd : BitVec 4) :
    ∃ v, v.toInt = ((dst.get s rd).extractLsb' 0 m).toInt * (src.get s rs).toInt
      ∧ answers s (.next (multiplyS dst src rs rd s)) rd v
        (· = { s.ccr with n := decide (v.toInt < 0), z := decide (v.toInt = 0) }) := by
  have exact_product := toInt_ofInt_mul hm ((dst.get s rd).setWidth m) (src.get s rs)
  refine ⟨_, exact_product.trans ?_, h s rd _ _ _ ?_⟩
  · rw [BitVec.setWidth_eq_extractLsb' (by omega)]
  · rw [exact_product]
    rfl

end

/-- Settles O23: the products of `multiplyU` and `multiplyS` at their two widths. -/
theorem multiplyResults : Obligations.MultiplyResults := fun s rs =>
  ⟨View.Answers.multiplyU (m := 8) vW_answersHalf vB s rs, View.Answers.multiplyU (m := 16) vL_answersLong vW s rs,
    View.Answers.multiplyS (m := 8) vW_answersHalf (by decide) vB s rs,
    View.Answers.multiplyS (m := 16) vL_answersLong (by decide) vW s rs⟩

/-! ### Extension (`41_arithmetic.md` rules R542-R545) -/

section
variable {n : Nat} {v : View n} {answers : AnswersAt n}

theorem beq_zero_eq_decide (r : BitVec n) : (r == 0) = decide (r.toNat = 0) := by
  rw [Bool.eq_iff_iff, beq_zero_iff_toNat, decide_eq_true_iff]

theorem View.Answers.extendU (h : v.Answers answers) {m : Nat} (hm : m ≤ n) (s : State) (rd : BitVec 4) :
    ∃ r, r.toNat = (v.get s rd).toNat % 2 ^ m ∧ answers s (.next (extendU v m rd s)) rd r
      (· = { s.ccr with n := false, z := decide (r.toNat = 0), v := false }) := by
  refine ⟨_, ?_, h s rd _ _ _ (by rw [← beq_zero_eq_decide]; rfl)⟩
  rw [BitVec.toNat_setWidth_of_le hm, BitVec.toNat_setWidth]

theorem View.Answers.extendS (h : v.Answers answers) {m : Nat} (hm : m ≤ n) (s : State) (rd : BitVec 4) :
    ∃ r, r.toInt = ((v.get s rd).extractLsb' 0 m).toInt
      ∧ answers s (.next (extendS v m rd s)) rd r (moveFlagsAre r s.ccr) := by
  refine ⟨_, ?_, h s rd _ _ _ (movFlags_moveFlagsAre _ _)⟩
  rw [BitVec.toInt_signExtend_of_le hm, BitVec.setWidth_eq_extractLsb' hm]

end

/-- Settles O26: `extendU` and `extendS` at their two widths. -/
theorem extendResults : Obligations.ExtendResults := fun s =>
  ⟨vW_answersHalf.extendU (m := 8) (by decide) s, vL_answersLong.extendU (m := 16) (by decide) s,
    vW_answersHalf.extendS (m := 8) (by decide) s, vL_answersLong.extendS (m := 16) (by decide) s⟩

/-! ### Quotients and remainders (`41_arithmetic.md` rules R503, R538-R541) -/

/-- A draw answers a value and counts itself (`00_scope.md` rule R15). -/
def isDraw {n : Nat} (draw : State → BitVec n × State) : Prop :=
  ∀ s, (draw s).2 = { s with draws := s.draws + 1 }

theorem drawHalf_isDraw : isDraw State.drawHalf := fun _ => rfl

theorem drawLong_isDraw : isDraw State.drawLong := fun _ => rfl

/-- The signed quotient of rule R503 fits in `m` bits. -/
def quotientFits (m : Nat) (q : Int) : Prop := -(2 ^ (m - 1)) ≤ q ∧ q < 2 ^ (m - 1)

section
variable {m : Nat} {dst : View (m + m)} {src : View m} {draw : State → BitVec (m + m) × State}

/-- DIVXU writes the destination and its flags, and the value is exact where there is one. -/
theorem divideU_eq (hdraw : isDraw draw) (s : State) (rs rd : BitVec 4) :
    ∃ draws val,
      divideU dst src draw rs rd s
        = dst.set { s with ccr := divxuFlags (src.get s rs) s.ccr, draws := draws } rd val
      ∧ ((src.get s rs).toNat ≠ 0 → (dst.get s rd).toNat / (src.get s rs).toNat < 2 ^ m →
        val = BitVec.ofNat m ((dst.get s rd).toNat % (src.get s rs).toNat)
            ++ BitVec.ofNat m ((dst.get s rd).toNat / (src.get s rs).toNat)
          ∧ draws = s.draws) := by
  unfold divideU
  dsimp only
  split
  case isTrue none =>
    refine ⟨s.draws + 1, (draw (s.setFlags (divxuFlags (src.get s rs)))).1, ?_, fun nonzero fits => ?_⟩
    case refine_2 => exact absurd none (by omega)
    rw [hdraw]
    rfl
  case isFalse => exact ⟨s.draws, _, rfl, fun _ _ => ⟨rfl, rfl⟩⟩

/-- DIVXS writes the destination and its flags; value and N are the rule's where there is a quotient. -/
theorem divideS_eq (hdraw : isDraw draw) (s : State) (rs rd : BitVec 4) {D S : Int} (hD : D = (dst.get s rd).toInt)
    (hS : S = (src.get s rs).toInt) :
    ∃ draws val neg,
      divideS dst src draw rs rd s
        = (dst.set { s with draws := draws } rd val).setFlags (divxsFlags (src.get s rs) neg)
      ∧ (S ≠ 0 → quotientFits m (D.tdiv S) →
        val = BitVec.ofInt m (D.tmod S) ++ BitVec.ofInt m (D.tdiv S)
          ∧ (D.tdiv S ≠ 0 ∨ (D < 0 ↔ S < 0) → neg = decide (D.tdiv S < 0))) := by
  subst hD hS
  unfold divideS
  dsimp only
  split
  case isTrue none =>
    refine ⟨s.draws + 2, (draw s).1, (draw s).2.drawBool.1, ?_, fun nonzero ⟨low, high⟩ => ?_⟩
    case refine_2 => exact absurd none (by omega)
    simp only [State.drawBool]
    rw [hdraw]
  case isFalse =>
    split
    case isTrue drawn =>
      refine ⟨s.draws + 1, _, _, rfl, fun _ _ => ⟨rfl, fun exact_sign => absurd drawn ?_⟩⟩
      rintro ⟨zero, signs⟩
      obtain h | h := exact_sign
      · exact h zero
      · exact signs (decide_eq_decide.2 h)
    case isFalse => exact ⟨s.draws, _, _, rfl, fun _ _ => ⟨rfl, fun _ => rfl⟩⟩

end

/-- A value above another, each of `m` bits, as a number. -/
theorem toNat_ofNat_append {m hi lo : Nat} (hhi : hi < 2 ^ m) (hlo : lo < 2 ^ m) :
    (BitVec.ofNat m hi ++ BitVec.ofNat m lo).toNat = 2 ^ m * hi + lo := by
  rw [BitVec.toNat_append, BitVec.toNat_ofNat, BitVec.toNat_ofNat, Nat.mod_eq_of_lt hhi, Nat.mod_eq_of_lt hlo,
    Nat.shiftLeft_eq, Nat.mul_comm, ← Nat.two_pow_add_eq_or_of_lt hlo]

/-- The remainder of rule R503 fits in the divisor's width. -/
theorem tmod_fits {m : Nat} (D : Int) (S : BitVec m) (hS : S.toInt ≠ 0) : quotientFits m (D.tmod S.toInt) := by
  have upper : S.toInt < 2 ^ (m - 1) := BitVec.toInt_lt
  have lower : -2 ^ (m - 1) ≤ S.toInt := S.le_toInt
  have small : (D.tmod S.toInt).natAbs < S.toInt.natAbs := by
    rw [Int.natAbs_tmod]
    exact Nat.mod_lt _ (by omega)
  constructor <;> omega

theorem toInt_ofInt_of_fits {m : Nat} (hm : 0 < m) {q : Int} (h : quotientFits m q) : (BitVec.ofInt m q).toInt = q :=
  BitVec.toInt_ofInt_eq_self hm h.1 h.2

theorem divxuFlags_eq {m : Nat} (S : BitVec m) (f : Ccr) :
    divxuFlags S f = { f with n := decide (2 ^ (m - 1) ≤ S.toNat), z := decide (S.toNat = 0) } := by
  rw [divxuFlags, BitVec.msb_eq_decide, beq_zero_eq_decide]

/-- Settles O24: the state of `divideU_eq` at the two widths. -/
theorem divideUnsignedResults : Obligations.DivideUnsignedResults := by
  refine fun s rs => ⟨fun rd => ?_, fun rd => ?_⟩
  · obtain ⟨draws, val, executed, value⟩ := divideU_eq (dst := vW) (src := vB) drawHalf_isDraw s rs rd
    refine ⟨_, congrArg Host.Outcome.next executed, onlyHalf_set16 _ rd val, divxuFlags_eq (s.get8 rs) s.ccr, rfl,
      fun nonzero fits => ?_⟩
    obtain ⟨rfl, rfl⟩ := value nonzero (Nat.lt_succ_of_le fits)
    refine ⟨(congrArg _ ((State.get16_set16 ..).trans (if_pos rfl))).trans (toNat_ofNat_append ?_ ?_), rfl⟩
    · exact (Nat.mod_lt _ (Nat.pos_of_ne_zero nonzero)).trans (s.get8 rs).isLt
    · exact Nat.lt_succ_of_le fits
  · obtain ⟨draws, val, executed, value⟩ := divideU_eq (dst := vL) (src := vW) drawLong_isDraw s rs rd
    refine ⟨_, congrArg Host.Outcome.next executed, onlyLong_set32 _ rd val, divxuFlags_eq (s.get16 rs) s.ccr, rfl,
      fun nonzero fits => ?_⟩
    obtain ⟨rfl, rfl⟩ := value nonzero (Nat.lt_succ_of_le fits)
    refine ⟨(congrArg _ ((State.get32_set32 ..).trans (if_pos rfl))).trans (toNat_ofNat_append ?_ ?_), rfl⟩
    · exact (Nat.mod_lt _ (Nat.pos_of_ne_zero nonzero)).trans (s.get16 rs).isLt
    · exact Nat.lt_succ_of_le fits

theorem divxsFlags_eq {m : Nat} (S : BitVec m) (neg : Bool) (f : Ccr) :
    divxsFlags S neg f = { f with n := neg, z := decide (S.toInt = 0) } := by
  have zero : (S == 0) = decide (S.toInt = 0) := by
    rw [Bool.eq_iff_iff, beq_iff_eq, decide_eq_true_iff, ← BitVec.toInt_inj]
    exact Eq.congr_right BitVec.toInt_zero
  rw [divxsFlags, zero]

/-- A value above another, each of `m` bits, taken apart. -/
theorem extract_ofInt_append {m : Nat} (hm : 0 < m) {hi lo : Int} (hhi : quotientFits m hi) (hlo : quotientFits m lo) :
    ((BitVec.ofInt m hi ++ BitVec.ofInt m lo).extractLsb' 0 m).toInt = lo
      ∧ ((BitVec.ofInt m hi ++ BitVec.ofInt m lo).extractLsb' m m).toInt = hi := by
  rw [BitVec.extractLsb'_append_eq_right, BitVec.extractLsb'_append_eq_left]
  exact ⟨toInt_ofInt_of_fits hm hlo, toInt_ofInt_of_fits hm hhi⟩

/-- Settles O25: the state of `divideS_eq` at the two widths. -/
theorem divideSignedResults : Obligations.DivideSignedResults := by
  refine fun s rs => ⟨fun rd => ?_, fun rd => ?_⟩
  · obtain ⟨draws, val, neg, executed, value⟩ := divideS_eq (dst := vW) (src := vB) drawHalf_isDraw s rs rd
      (D := (s.get16 rd).toInt) (S := (s.get8 rs).toInt) rfl rfl
    refine ⟨_, congrArg Host.Outcome.next executed, onlyHalf_set16 _ rd val, divxsFlags_eq (s.get8 rs) neg s.ccr, rfl,
      fun nonzero low high => ?_⟩
    have fits : quotientFits 8 ((s.get16 rd).toInt.tdiv (s.get8 rs).toInt) := ⟨low, Int.lt_add_one_of_le high⟩
    have read := (State.get16_set16 { s with draws := draws } rd rd val).trans (if_pos rfl)
    obtain ⟨val_eq, sign⟩ := value nonzero fits
    obtain ⟨quotient, remainder⟩ :=
      extract_ofInt_append (by decide) (tmod_fits (s.get16 rd).toInt (s.get8 rs) nonzero) fits
    rw [← val_eq, ← read] at quotient remainder
    exact ⟨quotient, remainder, fun signs => sign signs ▸ decide_eq_true_iff⟩
  · obtain ⟨draws, val, neg, executed, value⟩ := divideS_eq (dst := vL) (src := vW) drawLong_isDraw s rs rd
      (D := (s.get32 rd).toInt) (S := (s.get16 rs).toInt) rfl rfl
    refine ⟨_, congrArg Host.Outcome.next executed, onlyLong_set32 _ rd val, divxsFlags_eq (s.get16 rs) neg s.ccr, rfl,
      fun nonzero low high => ?_⟩
    have fits : quotientFits 16 ((s.get32 rd).toInt.tdiv (s.get16 rs).toInt) := ⟨low, Int.lt_add_one_of_le high⟩
    have read := (State.get32_set32 { s with draws := draws } rd rd val).trans (if_pos rfl)
    obtain ⟨val_eq, sign⟩ := value nonzero fits
    obtain ⟨quotient, remainder⟩ :=
      extract_ofInt_append (by decide) (tmod_fits (s.get32 rd).toInt (s.get16 rs) nonzero) fits
    rw [← val_eq, ← read] at quotient remainder
    exact ⟨quotient, remainder, fun signs => sign signs ▸ decide_eq_true_iff⟩

end Sys2Proof.Machine
end

section
/-! SUPPORT. The tables of DAA and DAS and their use in decimal arithmetic; shifts as doubling and halving; one bit of a
byte made a value; and the tests of CMP as orders. From these, the statements on decimal adjustment, shifts, bits of
registers, and branches after a compare. -/

namespace Sys2Proof.Machine
set_option Elab.async false

/-! ### The tables of DAA and DAS (`41_arithmetic.md` rules R518, R527) -/

/-- No input is covered by both rows. -/
def DecimalRow.apart (r q : DecimalRow) : Prop :=
  r.cIn ≠ q.cIn ∨ r.hIn ≠ q.hIn ∨ r.hiHi < q.hiLo ∨ q.hiHi < r.hiLo ∨ r.loHi < q.loLo ∨ q.loHi < r.loLo

theorem daaTable_apart : daaTable.Pairwise DecimalRow.apart := by
  unfold daaTable DecimalRow.apart
  decide

theorem dasTable_apart : dasTable.Pairwise DecimalRow.apart := by
  unfold dasTable DecimalRow.apart
  decide

theorem covers_iff (r : DecimalRow) (v : Byte) (c h : Bool) :
    r.covers v c h = true ↔ r.cIn = c ∧ r.hIn = h ∧ r.hiLo ≤ (hiNib v).toNat ∧ (hiNib v).toNat ≤ r.hiHi
      ∧ r.loLo ≤ (loNib v).toNat ∧ (loNib v).toNat ≤ r.loHi := by
  simp [DecimalRow.covers, and_assoc]

theorem not_covers_of_apart {r q : DecimalRow} (h : r.apart q) {v : Byte} {c hf : Bool} (hq : q.covers v c hf = true) :
    r.covers v c hf ≠ true := by
  intro hr
  rw [covers_iff] at hr hq
  unfold DecimalRow.apart at h
  obtain ⟨rfl, rfl, hr⟩ := hr
  obtain ⟨qc, qh, hq⟩ := hq
  rw [qc, qh] at h
  simp only [ne_eq, not_true_eq_false, false_or] at h
  omega

/-- In a table of rows that are apart, a row that covers the input is the one found. -/
theorem find?_of_covers {table : List DecimalRow} (apart : table.Pairwise DecimalRow.apart) {row : DecimalRow}
    (mem : row ∈ table) {v : Byte} {c h : Bool} (covers : row.covers v c h = true) :
    table.find? (fun r => r.covers v c h) = some row := by
  induction apart with
  | nil => exact nomatch mem
  | cons first _ ih =>
    obtain rfl | mem := List.mem_cons.1 mem
    · exact List.find?_cons_of_pos covers
    · rw [List.find?_cons, Bool.eq_false_iff.2 (not_covers_of_apart (first row mem) covers)]
      exact ih mem

/-- What DAA and DAS change, and the result where a row is found. -/
theorem decimalAdjust_changes (table : List DecimalRow) (s : State) (rd : Sel) :
    ∃ r c h v draws, decimalAdjust table rd s = ({ s with draws := draws }.set8 rd r).setFlags (decimalFlags r c h v)
      ∧ ∀ row, table.find? (fun q => q.covers (s.get8 rd) s.ccr.c s.ccr.h) = some row →
        r = s.get8 rd + row.add ∧ c = row.cOut := by
  simp only [decimalAdjust, decimalFinish, State.drawBool, State.drawByte]
  split
  case h_1 row found =>
    refine ⟨s.get8 rd + row.add, row.cOut, Config.freeBool s.draws, Config.freeBool (s.draws + 1), s.draws + 2, rfl,
      fun row' found' => ?_⟩
    obtain rfl := Option.some.inj (found.symm.trans found')
    exact ⟨rfl, rfl⟩
  case h_2 none =>
    exact ⟨Config.freeByte s.draws, Config.freeBool (s.draws + 1), Config.freeBool (s.draws + 2),
      Config.freeBool (s.draws + 3), s.draws + 4, rfl, fun row found => nomatch none.symm.trans found⟩

theorem hiNib_toNat (b : Byte) : (hiNib b).toNat = b.toNat / 16 := by
  have size : b.toNat < 256 := b.isLt
  simp only [hiNib, BitVec.extractLsb'_toNat, Nat.shiftRight_eq_div_pow]
  omega

theorem loNib_toNat (b : Byte) : (loNib b).toNat = b.toNat % 16 := by
  simp [loNib, BitVec.extractLsb'_toNat]

/-- DAA or DAS by its table: what it changes, and each row of the table. -/
theorem decimalAdjust_answers {table : List DecimalRow} (apart : table.Pairwise DecimalRow.apart) (s : State) (rd : Sel)
    {hi lo : Nat} (hhi : hi = (s.get8 rd).toNat / 16) (hlo : lo = (s.get8 rd).toNat % 16) {t : State}
    (ht : t = decimalAdjust table rd s) :
    onlyByte s t rd ∧ (t.ccr.n = true ↔ (t.get8 rd).toInt < 0) ∧ (t.ccr.z = true ↔ (t.get8 rd).toNat = 0)
      ∧ t.ccr.i = s.ccr.i ∧ t.ccr.ui = s.ccr.ui ∧ t.ccr.u = s.ccr.u
      ∧ t = { s with regs := t.regs, ccr := t.ccr, draws := t.draws }
      ∧ ∀ c h h₀ h₁ l₀ l₁ add cOut, ⟨c, h₀, h₁, h, l₀, l₁, add, cOut⟩ ∈ table → s.ccr.c = c → s.ccr.h = h →
        h₀ ≤ hi → hi ≤ h₁ → l₀ ≤ lo → lo ≤ l₁ → t.get8 rd = s.get8 rd + add ∧ t.ccr.c = cOut := by
  obtain ⟨r, c, h, v, draws, executed, result⟩ := decimalAdjust_changes table s rd
  rw [executed] at ht
  subst ht
  have read : (({ s with draws := draws }.set8 rd r).setFlags (decimalFlags r c h v)).get8 rd = r :=
    (State.get8_set8 { s with draws := draws } rd rd r).trans (if_pos rfl)
  rw [read]
  refine ⟨onlyByte_set8 _ rd r, msb_iff_toInt_neg r, beq_zero_iff_toNat r, rfl, rfl, rfl, rfl, ?_⟩
  rintro _ _ h₀ h₁ l₀ l₁ add cOut mem rfl rfl low_hi high_hi low_lo high_lo
  refine result _ (find?_of_covers apart mem ?_)
  rw [covers_iff, hiNib_toNat, loNib_toNat, ← hhi, ← hlo]
  exact ⟨rfl, rfl, low_hi, high_hi, low_lo, high_lo⟩

/-- Settles O21: each row of the statement is a row of the table. -/
theorem decimalAdjustResults : Obligations.DecimalAdjustResults := by
  rintro s i rd hi lo hhi hlo (rfl | rfl)
  · obtain ⟨frame, n, z, i, ui, u, rest, rows⟩ := decimalAdjust_answers daaTable_apart s rd hhi hlo rfl
    refine ⟨_, rfl, frame, n, z, i, ui, u, rest, fun _ => ⟨?_, ?_, ?_, ?_, ?_, ?_, ?_, ?_, ?_⟩, nofun⟩
    all_goals exact rows _ _ _ _ _ _ _ _ (by decide)
  · obtain ⟨frame, n, z, i, ui, u, rest, rows⟩ := decimalAdjust_answers dasTable_apart s rd hhi hlo rfl
    refine ⟨_, rfl, frame, n, z, i, ui, u, rest, nofun, fun _ => ⟨?_, ?_, ?_, ?_⟩⟩
    all_goals exact rows _ _ _ _ _ _ _ _ (by decide)

/-! ### Decimal addition and subtraction -/

theorem bcd_digits_toNat {a b : Nat} (ha : a < 10) (hb : b < 10) : (bcd (10 * a + b)).toNat = 16 * a + b := by
  rw [bcd, BitVec.toNat_ofNat]
  omega

/-- A byte and what a row adds to it, as a packed decimal number. -/
theorem add_eq_bcd {v add : Byte} {a b n : Nat} (hn : add.toNat = n) (ha : a < 10) (hb : b < 10)
    (h : (v.toNat + n) % 256 = 16 * a + b) : v + add = bcd (10 * a + b) := by
  subst hn
  exact BitVec.eq_of_toNat_eq ((BitVec.toNat_add ..).trans (h.trans (bcd_digits_toNat ha hb).symm))

/-- After the sum of two packed bytes, the row of DAA that its carries and digits choose gives the decimal sum: `a`, `b`
and `c`, `d` are the operands' digits, `e` and `f` those of the result. -/
theorem daa_after_add {t : State} {rd : Sel} {a b c d e f : Nat} (ha : a < 10) (hb : b < 10) (hc : c < 10) (hd : d < 10)
    (hf : f = (b + d) % 10) (he : e = (a + c + (b + d) / 10) % 10)
    (sum : (t.get8 rd).toNat = (16 * a + b + (16 * c + d)) % 256)
    (carry : t.ccr.c = true ↔ 256 ≤ 16 * a + b + (16 * c + d)) (half : t.ccr.h = true ↔ 16 ≤ b + d) :
    ∃ u, exec (.daa rd) t = .next u ∧ u.get8 rd = bcd (10 * e + f) ∧ (u.ccr.c = true ↔ 10 ≤ a + c + (b + d) / 10) := by
  obtain ⟨-, -, -, -, -, -, -, rows⟩ := decimalAdjust_answers daaTable_apart t rd rfl rfl rfl
  refine ⟨_, rfl, ?_⟩
  generalize decimalAdjust daaTable rd t = u at rows
  have finish {add : Byte} {cOut : Bool} (n : Nat) (hn : add.toNat = n)
      (value : ((t.get8 rd).toNat + n) % 256 = 16 * e + f) (carries : cOut = true ↔ 10 ≤ a + c + (b + d) / 10)
      (h : u.get8 rd = t.get8 rd + add ∧ u.ccr.c = cOut) :
      u.get8 rd = bcd (10 * e + f) ∧ (u.ccr.c = true ↔ 10 ≤ a + c + (b + d) / 10) := by
    rw [h.1, h.2]
    exact ⟨add_eq_bcd hn (by omega) (by omega) value, carries⟩
  generalize (t.get8 rd).toNat = v at *
  cases hC : t.ccr.c <;> cases hH : t.ccr.h <;>
    simp only [hC, hH, true_iff, false_iff, not_le, Bool.false_eq_true] at carry half
  case false.false =>
    by_cases lo : b + d ≤ 9
    · by_cases hi : a + c ≤ 9
      · exact finish 0 rfl (by omega) (by simp; omega)
          (rows false false 0 9 0 9 0x00 false (by decide) hC hH (by omega) (by omega) (by omega) (by omega))
      · exact finish 0x60 rfl (by omega) (by simp; omega)
          (rows false false 10 15 0 9 0x60 true (by decide) hC hH (by omega) (by omega) (by omega) (by omega))
    · by_cases hi : a + c ≤ 8
      · exact finish 6 rfl (by omega) (by simp; omega)
          (rows false false 0 8 10 15 0x06 false (by decide) hC hH (by omega) (by omega) (by omega) (by omega))
      · exact finish 0x66 rfl (by omega) (by simp; omega)
          (rows false false 9 15 10 15 0x66 true (by decide) hC hH (by omega) (by omega) (by omega) (by omega))
  case false.true =>
    by_cases hi : a + c ≤ 8
    · exact finish 6 rfl (by omega) (by simp; omega)
        (rows false true 0 9 0 3 0x06 false (by decide) hC hH (by omega) (by omega) (by omega) (by omega))
    · exact finish 0x66 rfl (by omega) (by simp; omega)
        (rows false true 10 15 0 3 0x66 true (by decide) hC hH (by omega) (by omega) (by omega) (by omega))
  case true.false =>
    by_cases lo : b + d ≤ 9
    · exact finish 0x60 rfl (by omega) (by simp; omega)
        (rows true false 0 2 0 9 0x60 true (by decide) hC hH (by omega) (by omega) (by omega) (by omega))
    · exact finish 0x66 rfl (by omega) (by simp; omega)
        (rows true false 0 2 10 15 0x66 true (by decide) hC hH (by omega) (by omega) (by omega) (by omega))
  case true.true =>
    exact finish 0x66 rfl (by omega) (by simp; omega)
      (rows true true 0 3 0 3 0x66 true (by decide) hC hH (by omega) (by omega) (by omega) (by omega))

/-- After the difference of two packed bytes, the row of DAS that its borrows choose gives the decimal difference. -/
theorem das_after_sub {t : State} {rd : Sel} {a b c d e f : Nat} (ha : a < 10) (hb : b < 10) (hc : c < 10) (hd : d < 10)
    (hf : f = (b + 10 - d) % 10) (he : e = (a + 9 - c + (b + 10 - d) / 10) % 10)
    (difference : (t.get8 rd).toNat = (16 * a + b + 256 - (16 * c + d)) % 256)
    (borrow : t.ccr.c = true ↔ 16 * a + b < 16 * c + d) (half : t.ccr.h = true ↔ b < d) :
    ∃ u, exec (.das rd) t = .next u ∧ u.get8 rd = bcd (10 * e + f) ∧ (u.ccr.c = true ↔ 10 * a + b < 10 * c + d) := by
  obtain ⟨-, -, -, -, -, -, -, rows⟩ := decimalAdjust_answers dasTable_apart t rd rfl rfl rfl
  refine ⟨_, rfl, ?_⟩
  generalize decimalAdjust dasTable rd t = u at rows
  have finish {add : Byte} {cOut : Bool} (n : Nat) (hn : add.toNat = n)
      (value : ((t.get8 rd).toNat + n) % 256 = 16 * e + f) (borrows : cOut = true ↔ 10 * a + b < 10 * c + d)
      (h : u.get8 rd = t.get8 rd + add ∧ u.ccr.c = cOut) :
      u.get8 rd = bcd (10 * e + f) ∧ (u.ccr.c = true ↔ 10 * a + b < 10 * c + d) := by
    rw [h.1, h.2]
    exact ⟨add_eq_bcd hn (by omega) (by omega) value, borrows⟩
  generalize (t.get8 rd).toNat = v at *
  cases hC : t.ccr.c <;> cases hH : t.ccr.h <;>
    simp only [hC, hH, true_iff, false_iff, not_lt, Bool.false_eq_true] at borrow half
  case false.false =>
    exact finish 0 rfl (by omega) (by simp; omega)
      (rows false false 0 9 0 9 0x00 false (by decide) hC hH (by omega) (by omega) (by omega) (by omega))
  case false.true =>
    exact finish 0xFA rfl (by omega) (by simp; omega)
      (rows false true 0 8 6 15 0xFA false (by decide) hC hH (by omega) (by omega) (by omega) (by omega))
  case true.false =>
    exact finish 0xA0 rfl (by omega) (by simp; omega)
      (rows true false 7 15 0 9 0xA0 true (by decide) hC hH (by omega) (by omega) (by omega) (by omega))
  case true.true =>
    exact finish 0x9A rfl (by omega) (by simp; omega)
      (rows true true 6 15 6 15 0x9A true (by decide) hC hH (by omega) (by omega) (by omega) (by omega))

/-- A number below 100 by its digits. -/
theorem exists_digits {x : Nat} (hx : x < 100) : ∃ a b, a < 10 ∧ b < 10 ∧ x = 10 * a + b :=
  ⟨x / 10, x % 10, by omega, by omega, by omega⟩

/-- Settles O22: the binary sum or difference of the packed operands, then the row that its carries and digits
choose. -/
theorem decimalAdjustIsDecimalArithmetic : Obligations.DecimalAdjustIsDecimalArithmetic := by
  intro s rs rd x y hx hy left right
  obtain ⟨a, b, ha, hb, rfl⟩ := exists_digits hx
  obtain ⟨c, d, hc, hd, rfl⟩ := exists_digits hy
  have leftNat : (s.get8 rd).toNat = 16 * a + b := by rw [left, bcd_digits_toNat ha hb]
  have rightNat : (s.get8 rs).toNat = 16 * c + d := by rw [right, bcd_digits_toNat hc hd]
  constructor
  · obtain ⟨t, added, value, -, ⟨-, -, -, carry, half, -, -, -⟩, -⟩ := vB_answersByte.addTo s rd (s.get8 rs)
    have sum : (t.get8 rd).toNat = (16 * a + b + (16 * c + d)) % 256 := by
      rw [value, ← leftNat, ← rightNat]
      exact BitVec.toNat_add ..
    simp only [vB, leftNat, rightNat] at carry half
    obtain ⟨u, adjusted, result, carried⟩ := daa_after_add ha hb hc hd rfl rfl sum carry (half.trans (by omega))
    refine ⟨t, u, added, adjusted, result.trans (congrArg bcd (by omega)), carried.trans (by omega)⟩
  · obtain ⟨t, subtracted, value, -, ⟨-, -, -, borrow, half, -, -, -⟩, -⟩ := vB_answersByte.subFrom s rd (s.get8 rs)
    have difference : (t.get8 rd).toNat = (16 * a + b + 256 - (16 * c + d)) % 256 := by
      rw [value, ← leftNat, ← rightNat]
      refine (BitVec.toNat_sub ..).trans ?_
      show (2 ^ 8 - (s.get8 rs).toNat + (s.get8 rd).toNat) % 2 ^ 8 = _
      omega
    simp only [vB, leftNat, rightNat] at borrow half
    obtain ⟨u, adjusted, result, borrowed⟩ :=
      das_after_sub ha hb hc hd rfl rfl difference borrow (half.trans (by omega))
    exact ⟨t, u, subtracted, adjusted, result.trans (congrArg bcd (by omega)), borrowed⟩

/-! ### Shifts and rotates (`43_shift.md` rules R700-R724) -/

/-- The bit that comes in: at the bottom of a shift to the left, at the top of one to the right. -/
def ShiftOp.letIn {n : Nat} (op : ShiftOp) (v : BitVec n) (c : Bool) : Bool :=
  match op with
  | .shal | .shll | .shlr => false
  | .shar | .rotl => v.msb
  | .rotr => v.getLsbD 0
  | .rotxl | .rotxr => c

section
variable {n : Nat} (v : BitVec n) (b : Bool)

theorem toNat_bit_of_pos (hn : 0 < n) : ((BitVec.ofBool b).setWidth n).toNat = b.toNat := by
  have small : b.toNat < 2 ^ n := lt_of_lt_of_le b.toNat_lt (Nat.pow_le_pow_right (n := 2) (by decide) hn)
  rw [BitVec.toNat_setWidth, BitVec.toNat_ofBool, Nat.mod_eq_of_lt small]

theorem shiftLeft_or_low (hn : 0 < n) : v <<< 1 ||| (BitVec.ofBool b).setWidth n = shiftedLeft v b := by
  have disjoint : v <<< 1 &&& (BitVec.ofBool b).setWidth n = 0 := by
    apply BitVec.eq_of_getLsbD_eq
    intro i hi
    cases i <;> simp
  rw [← BitVec.add_eq_or_of_and_eq_zero _ _ disjoint]
  apply BitVec.eq_of_toNat_eq
  rw [BitVec.toNat_add, BitVec.toNat_shiftLeft, toNat_bit_of_pos b hn, shiftedLeft, BitVec.toNat_ofNat,
    Nat.mod_add_mod, Nat.shiftLeft_eq, Nat.mul_comm]
  cases b <;> rfl

theorem shiftRight_or_top (hn : 0 < n) :
    v >>> 1 ||| (BitVec.ofBool b).setWidth n <<< (n - 1) = shiftedRight v b := by
  have disjoint : v >>> 1 &&& (BitVec.ofBool b).setWidth n <<< (n - 1) = 0 := by
    apply BitVec.eq_of_getLsbD_eq
    intro i hi
    by_cases top : i = n - 1
    · simp [top, show n ≤ 1 + (n - 1) by omega]
    · simp [show i < n - 1 by omega]
  rw [← BitVec.add_eq_or_of_and_eq_zero _ _ disjoint]
  apply BitVec.eq_of_toNat_eq
  rw [BitVec.toNat_add, BitVec.toNat_ushiftRight, BitVec.toNat_shiftLeft, toNat_bit_of_pos b hn, shiftedRight,
    BitVec.toNat_ofNat, Nat.add_mod_mod, Nat.shiftRight_eq_div_pow, Nat.shiftLeft_eq]
  cases b <;> simp

end

section
variable {n : Nat} {v : View n} {answers : AnswersAt n}

theorem View.Answers.shiftBy (h : v.Answers answers) (op : ShiftOp) (s : State) (rd : BitVec 4) {r : BitVec n}
    (hr : shiftResult op (v.get s rd) s.ccr.c = r) :
    answers s (.next (shiftBy v op rd s)) rd r
      (shiftFlagsAre r (shiftOut op (v.get s rd)) (shiftOverflow op (v.get s rd)) s.ccr) := by
  subst hr
  exact h s rd _ _ _ ⟨msb_iff_toInt_neg _, beq_zero_iff_toNat _, rfl, rfl, rfl⟩

end
section
variable {n : Nat} (v : BitVec n) (c : Bool)

theorem shiftResult_left (hn : 0 < n) {op : ShiftOp} (hop : op ∈ [.shal, .shll, .rotl, .rotxl]) :
    shiftResult op v c = shiftedLeft v (op.letIn v c) := by
  have zero : v <<< 1 = shiftedLeft v false := by simpa using shiftLeft_or_low v false hn
  simp only [List.mem_cons, List.not_mem_nil, or_false] at hop
  obtain rfl | rfl | rfl | rfl := hop
  · exact zero
  · exact zero
  · exact shiftLeft_or_low v _ hn
  · exact shiftLeft_or_low v c hn

theorem shiftResult_right (hn : 0 < n) {op : ShiftOp} (hop : op ∈ [.shar, .shlr, .rotr, .rotxr]) :
    shiftResult op v c = shiftedRight v (op.letIn v c) := by
  have zero : v >>> 1 = shiftedRight v false := by simpa using shiftRight_or_top v false hn
  simp only [List.mem_cons, List.not_mem_nil, or_false] at hop
  obtain rfl | rfl | rfl | rfl := hop
  · exact shiftRight_or_top v _ hn
  · exact zero
  · exact shiftRight_or_top v _ hn
  · exact shiftRight_or_top v c hn

end

/-- Settles O28: the four operations that double the value, at the three widths. -/
theorem leftShiftResults : Obligations.LeftShiftResults := by
  refine fun s => ⟨?byte, ?half, ?long⟩
  case byte =>
    rintro i rd _ _ (⟨rfl, rfl, rfl⟩ | ⟨rfl, rfl, rfl⟩ | ⟨rfl, rfl, rfl⟩ | ⟨rfl, rfl, rfl⟩)
    · exact vB_answersByte.shiftBy .shal s rd (shiftResult_left _ _ (by decide) (by decide))
    · exact vB_answersByte.shiftBy .shll s rd (shiftResult_left _ _ (by decide) (by decide))
    · exact vB_answersByte.shiftBy .rotl s rd (shiftResult_left _ _ (by decide) (by decide))
    · exact vB_answersByte.shiftBy .rotxl s rd (shiftResult_left _ _ (by decide) (by decide))
  case half =>
    rintro i rd _ _ (⟨rfl, rfl, rfl⟩ | ⟨rfl, rfl, rfl⟩ | ⟨rfl, rfl, rfl⟩ | ⟨rfl, rfl, rfl⟩)
    · exact vW_answersHalf.shiftBy .shal s rd (shiftResult_left _ _ (by decide) (by decide))
    · exact vW_answersHalf.shiftBy .shll s rd (shiftResult_left _ _ (by decide) (by decide))
    · exact vW_answersHalf.shiftBy .rotl s rd (shiftResult_left _ _ (by decide) (by decide))
    · exact vW_answersHalf.shiftBy .rotxl s rd (shiftResult_left _ _ (by decide) (by decide))
  case long =>
    rintro i rd _ _ (⟨rfl, rfl, rfl⟩ | ⟨rfl, rfl, rfl⟩ | ⟨rfl, rfl, rfl⟩ | ⟨rfl, rfl, rfl⟩)
    · exact vL_answersLong.shiftBy .shal s rd (shiftResult_left _ _ (by decide) (by decide))
    · exact vL_answersLong.shiftBy .shll s rd (shiftResult_left _ _ (by decide) (by decide))
    · exact vL_answersLong.shiftBy .rotl s rd (shiftResult_left _ _ (by decide) (by decide))
    · exact vL_answersLong.shiftBy .rotxl s rd (shiftResult_left _ _ (by decide) (by decide))

/-- Settles O29: the four operations that halve the value, at the three widths. -/
theorem rightShiftResults : Obligations.RightShiftResults := by
  refine fun s => ⟨?byte, ?half, ?long⟩
  case byte =>
    rintro i rd _ (⟨rfl, rfl⟩ | ⟨rfl, rfl⟩ | ⟨rfl, rfl⟩ | ⟨rfl, rfl⟩)
    · exact vB_answersByte.shiftBy .shar s rd (shiftResult_right _ _ (by decide) (by decide))
    · exact vB_answersByte.shiftBy .shlr s rd (shiftResult_right _ _ (by decide) (by decide))
    · exact vB_answersByte.shiftBy .rotr s rd (shiftResult_right _ _ (by decide) (by decide))
    · exact vB_answersByte.shiftBy .rotxr s rd (shiftResult_right _ _ (by decide) (by decide))
  case half =>
    rintro i rd _ (⟨rfl, rfl⟩ | ⟨rfl, rfl⟩ | ⟨rfl, rfl⟩ | ⟨rfl, rfl⟩)
    · exact vW_answersHalf.shiftBy .shar s rd (shiftResult_right _ _ (by decide) (by decide))
    · exact vW_answersHalf.shiftBy .shlr s rd (shiftResult_right _ _ (by decide) (by decide))
    · exact vW_answersHalf.shiftBy .rotr s rd (shiftResult_right _ _ (by decide) (by decide))
    · exact vW_answersHalf.shiftBy .rotxr s rd (shiftResult_right _ _ (by decide) (by decide))
  case long =>
    rintro i rd _ (⟨rfl, rfl⟩ | ⟨rfl, rfl⟩ | ⟨rfl, rfl⟩ | ⟨rfl, rfl⟩)
    · exact vL_answersLong.shiftBy .shar s rd (shiftResult_right _ _ (by decide) (by decide))
    · exact vL_answersLong.shiftBy .shlr s rd (shiftResult_right _ _ (by decide) (by decide))
    · exact vL_answersLong.shiftBy .rotr s rd (shiftResult_right _ _ (by decide) (by decide))
    · exact vL_answersLong.shiftBy .rotxr s rd (shiftResult_right _ _ (by decide) (by decide))

end Sys2Proof.Machine
end

section
/-! SUPPORT. One bit of a byte made a value or read into a flag, on registers and on memory; the tests after CMP as
orders; jumps and calls; the CCR as a byte, to and from memory. From these, the statements on the bit instructions, on
branches after a compare, on jumps and calls, and on LDC and STC. -/

namespace Sys2Proof.Machine
set_option Elab.async false

/-! ### One bit of a byte (`44_bit.md` rules R802-R804, R808, R809) -/

section
variable {b : Byte} {k : BitVec 3} {v : Bool} {s : State}

theorem getLsbD_one_shiftLeft {k j : Nat} (hj : j < 8) : (1#8 <<< k).getLsbD j = decide (j = k) := by
  rw [BitVec.getLsbD_shiftLeft, BitVec.getLsbD_one]
  by_cases h : j = k <;> simp [h, hj] <;> omega

theorem bitMade_setBitOf (hv : v = true) : bitMade b k v (setBitOf k b) := by
  intro j hj
  rw [setBitOf, BitVec.getLsbD_or, getLsbD_one_shiftLeft hj, hv]
  by_cases h : j = k.toNat <;> simp [h]

theorem bitMade_clearBitOf (hv : v = false) : bitMade b k v (clearBitOf k b) := by
  intro j hj
  rw [clearBitOf, BitVec.getLsbD_and, BitVec.getLsbD_not, getLsbD_one_shiftLeft hj, hv]
  by_cases h : j = k.toNat <;> simp [h, hj]

theorem bitMade_invertBitOf (hv : v = !b.getLsbD k.toNat) : bitMade b k v (invertBitOf k b) := by
  intro j hj
  rw [invertBitOf, BitVec.getLsbD_xor, getLsbD_one_shiftLeft hj, hv]
  by_cases h : j = k.toNat <;> simp [h]

theorem bitMade_storeBitOf {c : Bool} (hv : v = c) : bitMade b k v (storeBitOf k c b) := by
  intro j hj
  have same : BitVec.ofNat 3 j = k ↔ j = k.toNat := by
    rw [← BitVec.toNat_inj, BitVec.toNat_ofNat, Nat.mod_eq_of_lt hj]
  have bit := getLsbD_putBit b k (BitVec.ofNat 3 j) c
  rw [BitVec.toNat_ofNat, Nat.mod_eq_of_lt hj] at bit
  rw [storeBitOf, bit, hv, if_congr same rfl rfl]

theorem bitNumber_toNat (s : State) (rn : Sel) : (bitNumber s rn).toNat = (s.get8 rn).toNat % 8 := by
  simp [bitNumber, BitVec.extractLsb'_toNat]

theorem bitNumber_eq {rn : Sel} (h : k.toNat = (s.get8 rn).toNat % 8) : bitNumber s rn = k :=
  BitVec.eq_of_toNat_eq ((bitNumber_toNat s rn).trans h.symm)

/-! ### Registers and memory -/

theorem modifyReg_answersByte {g : Byte → Byte} (rd : Sel) (hg : bitMade (s.get8 rd) k v (g (s.get8 rd))) :
    ∃ b', bitMade (s.get8 rd) k v b' ∧ answersByte s (.next (modifyReg g rd s)) rd b' (· = s.ccr) :=
  ⟨_, hg, vB_answersByte s rd _ id _ rfl⟩

theorem modifyMem_modifiesByte {g : Byte → Byte} {a : Addr} (hg : bitMade (s.raw a) k v (g (s.raw a))) :
    modifiesByte s (.next (modifyMem g a s)) a k v := by
  have written := State.writeEffect_store8 (s.readHook a) a (g (s.raw a))
  refine ⟨_, g (s.raw a), rfl, hg, written, fun x hx hw hr => ?_, rfl, rfl, rfl, rfl, ?_⟩
  · exact (written.others x (fun h => hx ((inRange_one a x).1 h)) hw).trans ((s.readEffect_load8 a).others x hr)
  · exact (s.onlyLoaded_readHook a).read.written.trans (State.onlyStored_store8 ..).written

end

/-- Settles O30: each form is `modifyReg` with its change of a byte. -/
theorem bitWritesOfRegisters : Obligations.BitWritesOfRegisters := by
  rintro s i rd k v (⟨rfl, hv⟩ | ⟨rfl, hv⟩ | ⟨rfl, hv⟩ | ⟨rn, hk, ⟨rfl, hv⟩ | ⟨rfl, hv⟩ | ⟨rfl, hv⟩⟩ | ⟨rfl, hv⟩
    | ⟨rfl, hv⟩)
  · exact modifyReg_answersByte rd (bitMade_setBitOf hv)
  · exact modifyReg_answersByte rd (bitMade_clearBitOf hv)
  · exact modifyReg_answersByte rd (bitMade_invertBitOf hv)
  · obtain rfl := bitNumber_eq hk
    exact modifyReg_answersByte rd (bitMade_setBitOf hv)
  · obtain rfl := bitNumber_eq hk
    exact modifyReg_answersByte rd (bitMade_clearBitOf hv)
  · obtain rfl := bitNumber_eq hk
    exact modifyReg_answersByte rd (bitMade_invertBitOf hv)
  · exact modifyReg_answersByte rd (bitMade_storeBitOf hv)
  · exact modifyReg_answersByte rd (bitMade_storeBitOf hv)

/-- Settles O31: each form is `modifyMem` at its address with its change of a byte. -/
theorem bitWritesOfMemory : Obligations.BitWritesOfMemory := by
  rintro s i a k v (⟨rd, rfl, form⟩ | ⟨abs, rfl, form⟩)
  · obtain ⟨rfl, hv⟩ | ⟨rfl, hv⟩ | ⟨rfl, hv⟩ | ⟨rn, hk, ⟨rfl, hv⟩ | ⟨rfl, hv⟩ | ⟨rfl, hv⟩⟩ | ⟨rfl, hv⟩
      | ⟨rfl, hv⟩ := form
    · exact modifyMem_modifiesByte (bitMade_setBitOf hv)
    · exact modifyMem_modifiesByte (bitMade_clearBitOf hv)
    · exact modifyMem_modifiesByte (bitMade_invertBitOf hv)
    · obtain rfl := bitNumber_eq hk
      exact modifyMem_modifiesByte (bitMade_setBitOf hv)
    · obtain rfl := bitNumber_eq hk
      exact modifyMem_modifiesByte (bitMade_clearBitOf hv)
    · obtain rfl := bitNumber_eq hk
      exact modifyMem_modifiesByte (bitMade_invertBitOf hv)
    · exact modifyMem_modifiesByte (bitMade_storeBitOf hv)
    · exact modifyMem_modifiesByte (bitMade_storeBitOf hv)
  · obtain ⟨rfl, hv⟩ | ⟨rfl, hv⟩ | ⟨rfl, hv⟩ | ⟨rn, hk, ⟨rfl, hv⟩ | ⟨rfl, hv⟩ | ⟨rfl, hv⟩⟩ | ⟨rfl, hv⟩
      | ⟨rfl, hv⟩ := form
    · exact modifyMem_modifiesByte (bitMade_setBitOf hv)
    · exact modifyMem_modifiesByte (bitMade_clearBitOf hv)
    · exact modifyMem_modifiesByte (bitMade_invertBitOf hv)
    · obtain rfl := bitNumber_eq hk
      exact modifyMem_modifiesByte (bitMade_setBitOf hv)
    · obtain rfl := bitNumber_eq hk
      exact modifyMem_modifiesByte (bitMade_clearBitOf hv)
    · obtain rfl := bitNumber_eq hk
      exact modifyMem_modifiesByte (bitMade_invertBitOf hv)
    · exact modifyMem_modifiesByte (bitMade_storeBitOf hv)
    · exact modifyMem_modifiesByte (bitMade_storeBitOf hv)

/-! ### Bits read into the flags (`44_bit.md` rules R805-R807, R810-R815) -/

/-- A read's effect is of memory alone. -/
theorem ReadEffect.congr {s t u : State} {a : Addr} {n : Nat} (h : ReadEffect s t a n) (mem : u.mem = t.mem) :
    ReadEffect s u a n := by
  have raw (x : Addr) : u.raw x = t.raw x := by
    unfold State.raw
    rw [mem]
  exact ⟨fun x => (raw x).trans (h.image x), fun x hx => (raw x).trans (h.others x hx)⟩

theorem testMemBit_testsByte (s : State) (a : Addr) (k : BitVec 3) :
    testsByte s (.next (testMemBit k a s)) a (fun b => { s.ccr with z := !b }) k :=
  ⟨_, rfl, rfl, (s.readEffect_load8 a).congr rfl, rfl⟩

theorem carryFromMem_testsByte (s : State) (op : Bool → Bool → Bool) (a : Addr) (k : BitVec 3) :
    testsByte s (.next (carryFromMem op k a s)) a (fun b => { s.ccr with c := op s.ccr.c b }) k :=
  ⟨_, rfl, rfl, (s.readEffect_load8 a).congr rfl, rfl⟩

theorem carryFromReg_answersFlags (s : State) (op : Bool → Bool → Bool) (rd : Sel) (k : BitVec 3) :
    answersFlags s (.next (carryFromReg op k rd s))
      (· = { s.ccr with c := op s.ccr.c ((s.get8 rd).getLsbD k.toNat) }) :=
  ⟨_, rfl, rfl, rfl⟩

/-- A bit instruction of the group that writes C, by its operation on C and the bit. -/
theorem changesCarry_of_exec {s : State} {reg : BitVec 3 → Sel → Instr} {ind : BitVec 3 → ErSel → Instr}
    {abs8 : BitVec 3 → BitVec 8 → Instr} (op : Bool → Bool → Bool)
    (hreg : ∀ k rd, exec (reg k rd) s = .next (carryFromReg op k rd s))
    (hind : ∀ k rd, exec (ind k rd) s = .next (carryFromMem op k (eaInd s rd) s))
    (habs : ∀ k abs, exec (abs8 k abs) s = .next (carryFromMem op k (eaAbs8 abs) s)) :
    changesCarry s reg ind abs8 op :=
  ⟨fun k rd => hreg k rd ▸ carryFromReg_answersFlags s op rd k, fun k rd => hind k rd ▸ carryFromMem_testsByte s op _ k,
    fun k abs => habs k abs ▸ carryFromMem_testsByte s op _ k⟩

/-- Settles O32: BTST by its operand, and each of the others by its operation. -/
theorem bitReads : Obligations.BitReads := by
  refine fun s => ⟨fun k rd => ⟨_, rfl, rfl, rfl⟩, fun rn rd => ⟨_, rfl, ?_, rfl⟩,
    fun k rd => testMemBit_testsByte s _ k, fun rn rd k hk => ?_, fun k abs => testMemBit_testsByte s _ k,
    fun rn abs k hk => ?_,
    changesCarry_of_exec _ (fun _ _ => rfl) (fun _ _ => rfl) (fun _ _ => rfl),
    changesCarry_of_exec _ (fun _ _ => rfl) (fun _ _ => rfl) (fun _ _ => rfl),
    changesCarry_of_exec _ (fun _ _ => rfl) (fun _ _ => rfl) (fun _ _ => rfl),
    changesCarry_of_exec _ (fun _ _ => rfl) (fun _ _ => rfl) (fun _ _ => rfl),
    changesCarry_of_exec _ (fun _ _ => rfl) (fun _ _ => rfl) (fun _ _ => rfl),
    changesCarry_of_exec _ (fun _ _ => rfl) (fun _ _ => rfl) (fun _ _ => rfl),
    changesCarry_of_exec _ (fun _ _ => rfl) (fun _ _ => rfl) (fun _ _ => rfl),
    ?_⟩
  · rw [← bitNumber_toNat]
    rfl
  · obtain rfl := bitNumber_eq hk
    exact testMemBit_testsByte s _ _
  · obtain rfl := bitNumber_eq hk
    exact testMemBit_testsByte s _ _
  · have op : (fun c b : Bool => c == b) = fun c b => c ^^ !b := by
      funext c b
      cases c <;> cases b <;> rfl
    rw [op]
    exact changesCarry_of_exec _ (fun _ _ => rfl) (fun _ _ => rfl) (fun _ _ => rfl)

/-! ### Branches after a compare (`41_arithmetic.md` rule R509, `45_branch.md` rule R900) -/

/-- The flags of a compare tell equality, the unsigned order and the signed order. -/
theorem compareFlags_iff {a b : Half} {f g : Ccr} (h : subFlagsAre a b f g) :
    (g.z = true ↔ a = b) ∧ (g.c = true ↔ a.toNat < b.toNat) ∧ ((g.n ^^ g.v) = true ↔ a.toInt < b.toInt) := by
  obtain ⟨hN, hZ, hV, hC, -⟩ := h
  refine ⟨hZ.trans ?_, hC, ?_⟩
  · rw [← BitVec.toNat_inj]
    bv_omega
  · have difference : (a - b).toInt = (a.toInt - b.toInt).bmod (2 ^ 16) := BitVec.toInt_sub ..
    have upper_a : a.toInt < 2 ^ 15 := BitVec.toInt_lt
    have upper_b : b.toInt < 2 ^ 15 := BitVec.toInt_lt
    have lower_a : -2 ^ 15 ≤ a.toInt := a.le_toInt
    have lower_b : -2 ^ 15 ≤ b.toInt := b.le_toInt
    rw [difference, Int.bmod_def] at hN
    unfold outOfRange at hV
    cases hn : g.n <;> cases hv : g.v <;> simp [hn, hv] at * <;> omega

/-- Settles O34: each test is one of the three orders of `compareFlags_iff`, or its complement. -/
theorem branchAfterCompareIsAnOrder : Obligations.BranchAfterCompareIsAnOrder := by
  intro s rs rd
  obtain ⟨t, executed, flags, -⟩ := compare_answersFlags vW s rd (s.get16 rs)
  obtain ⟨equal, below, less⟩ := compareFlags_iff (a := s.get16 rd) (b := s.get16 rs) flags
  have below_or_equal : (t.ccr.c || t.ccr.z) = true ↔ (s.get16 rd).toNat ≤ (s.get16 rs).toNat := by
    rw [Bool.or_eq_true, below, equal, ← BitVec.toNat_inj]
    omega
  have less_or_equal : (t.ccr.z || (t.ccr.n ^^ t.ccr.v)) = true ↔ (s.get16 rd).toInt ≤ (s.get16 rs).toInt := by
    rw [Bool.or_eq_true, equal, less, ← BitVec.toInt_inj]
    omega
  have not_iff {b : Bool} {p q : Prop} (h : b = true ↔ p) (hq : ¬ p ↔ q) : (!b) = true ↔ q := by
    rw [← hq, ← h, Bool.not_eq_true', Bool.not_eq_true]
  exact ⟨t, executed,
    branches_of_branchIf (!(t.ccr.c || t.ccr.z)) (fun _ => rfl) (not_iff below_or_equal Nat.not_le),
    branches_of_branchIf (t.ccr.c || t.ccr.z) (fun _ => rfl) below_or_equal,
    branches_of_branchIf (!t.ccr.c) (fun _ => rfl) (not_iff below Nat.not_lt),
    branches_of_branchIf t.ccr.c (fun _ => rfl) below,
    branches_of_branchIf (!t.ccr.z) (fun _ => rfl) (not_iff equal Iff.rfl),
    branches_of_branchIf t.ccr.z (fun _ => rfl) equal,
    branches_of_branchIf (!(t.ccr.n ^^ t.ccr.v)) (fun _ => rfl) (not_iff less Int.not_lt),
    branches_of_branchIf (t.ccr.n ^^ t.ccr.v) (fun _ => rfl) less,
    branches_of_branchIf (!(t.ccr.z || (t.ccr.n ^^ t.ccr.v))) (fun _ => rfl) (not_iff less_or_equal Int.not_le),
    branches_of_branchIf (t.ccr.z || (t.ccr.n ^^ t.ccr.v)) (fun _ => rfl) less_or_equal⟩

/-! ### Jumps and calls (`45_branch.md` rules R918-R921, `20_memory.md` rule R220) -/

/-- `t` has the parameters, the load latch and the device protocols of `s`: what the effect of hooks speaks of. -/
def State.sameHooked (s t : State) : Prop :=
  t.cfg = s.cfg ∧ t.tb1Load = s.tb1Load ∧ t.eep = s.eep ∧ t.acc = s.acc ∧ t.lcd = s.lcd

/-- `t` has memory besides: what the effect of a write speaks of. -/
def State.sameBus (s t : State) : Prop := t.mem = s.mem ∧ s.sameHooked t

theorem HookEffect.congr {s s' t t' : State} {a : Addr} {bs : List Byte} (h : HookEffect s t a bs)
    (start : s.sameHooked s') (finish : t.sameHooked t') : HookEffect s' t' a bs := by
  obtain ⟨cfg, load, eep, acc, lcd⟩ := start
  obtain ⟨-, load', eep', acc', lcd'⟩ := finish
  refine ⟨?_, ?_, ?_, ?_, ?_, ?_, ?_, ?_⟩
  · rw [cfg, load']
    exact h.latched
  · rw [cfg, load', load]
    exact h.notLatched
  · rw [cfg, eep', eep]
    exact h.eepReset
  · rw [cfg, eep', eep]
    exact h.eepKept
  · rw [cfg, acc', acc]
    exact h.accReset
  · rw [cfg, acc', acc]
    exact h.accKept
  · rw [cfg, lcd', lcd]
    exact h.lcdReset
  · rw [cfg, lcd', lcd]
    exact h.lcdKept

theorem WriteEffect.congr {s s' t t' : State} {a : Addr} {bs : List Byte} (h : WriteEffect s t a bs)
    (start : s.sameBus s') (finish : t.sameBus t') : WriteEffect s' t' a bs := by
  obtain ⟨mem, hooked⟩ := start
  obtain ⟨mem', hooked'⟩ := finish
  have raw (x : Addr) : s'.raw x = s.raw x := by
    unfold State.raw
    rw [mem]
  have raw' (x : Addr) : t'.raw x = t.raw x := by
    unfold State.raw
    rw [mem']
  refine ⟨h.toHookEffect.congr hooked hooked', fun x => ?_, fun x => ?_⟩
  · rw [hooked.1, raw', funext raw]
    exact h.image x
  · rw [hooked.1, raw', raw]
    exact h.others x

/-- A call once its target is known: the push of the return address, then the jump. -/
theorem callTo_calls {s m : State} (hm : s.onlyLoaded m) (ret target : Addr) :
    calls s m (.next (callTo ret target m)) target ret := by
  have loaded := hm
  unfold State.onlyLoaded at loaded
  have sp (i : Fin 8) : m.x i = s.x i := by rw [loaded]; rfl
  have top : eaPreDec s 2 7 = eaPreDec m 2 7 := by rw [loaded]; rfl
  have pushed := State.writeEffect_store16 (m.setX 7 (m.x 7 - 2)) (eaPreDec m 2 7) ret
  rw [← State.push16_eq_store16] at pushed
  have x_pushed (i : Fin 8) : (callTo ret target m).x i = if 7 = i then m.x 7 - 2 else m.x i := m.x_push16 ret i
  have frame : m.sameButWritten (callTo ret target m) := by
    rw [callTo, State.push16_eq_store16]
    exact (State.sameButRead_setX ..).written.trans
      ((State.onlyStored_store16 ..).written.trans (State.sameButRead_setPc ..).written)
  refine ⟨_, rfl, ?_, ?_, fun i hi => ?_, rfl, ?_, ?_, hm.read.written.trans frame⟩
  · rw [top]
    exact pushed.congr ⟨rfl, rfl, rfl, rfl, rfl, rfl⟩ ⟨rfl, rfl, rfl, rfl, rfl, rfl⟩
  · rw [x_pushed, if_pos rfl, sp]
  · rw [x_pushed, if_neg (Ne.symm hi), sp]
  · exact (State.push16_ccr m ret).trans (by rw [loaded])
  · exact (State.push16_draws m ret).trans (by rw [loaded])

theorem State.onlyLoaded_refl (s : State) : s.onlyLoaded s := rfl

theorem setWidth_eq_ofNat {n : Nat} (m : Nat) (v : BitVec n) : v.setWidth m = BitVec.ofNat m v.toNat :=
  BitVec.eq_of_toNat_eq (by rw [BitVec.toNat_setWidth, BitVec.toNat_ofNat])

/-- Settles O35: jumps set pc, calls are `callTo`, and RTS is a pop. -/
theorem jumpsAndCalls : Obligations.JumpsAndCalls := by
  intro s
  refine ⟨fun rn => ?_, fun abs => ?_, fun abs => ?_, fun disp => ?_, fun rn => ?_, fun abs => ?_, fun abs => ?_, ?_⟩
  · rw [← setWidth_eq_ofNat]
    rfl
  · rw [← setWidth_eq_ofNat]
    rfl
  · exact ⟨_, rfl, s.load16_value _, (s.readEffect_load16 _).congr rfl, rfl⟩
  · exact ⟨_, _, branchTarget_isTarget s.pc disp, branchNext_isNext s.pc disp, callTo_calls s.onlyLoaded_refl _ _⟩
  · rw [← setWidth_eq_ofNat]
    exact callTo_calls s.onlyLoaded_refl _ _
  · rw [← setWidth_eq_ofNat]
    exact callTo_calls s.onlyLoaded_refl _ _
  · exact ⟨_, (s.load16 (eaMemInd abs)).1, s.readEffect_load16 _, s.onlyLoaded_load16 _, s.load16_value _,
      callTo_calls (s.onlyLoaded_load16 _) _ _⟩
  · refine ⟨_, rfl, s.load16_value _, (s.readEffect_load16 _).congr rfl, ?_, fun i hi => ?_, rfl⟩
    · exact (s.x_pop16 7).trans (if_pos rfl)
    · exact (s.x_pop16 i).trans (if_neg (Ne.symm hi))

/-! ### The CCR as a byte (`46_system.md` rules R1000-R1004) -/

theorem upper_toNat (w : Half) : (w.extractLsb' 8 8).toNat = w.toNat / 256 := by
  have size : w.toNat < 65536 := w.isLt
  simp only [BitVec.extractLsb'_toNat, Nat.shiftRight_eq_div_pow]
  omega

theorem setFlags_answersFlags (s : State) (g : Ccr → Byte) :
    answersFlags s (.next (s.setFlags fun f => Ccr.ofByte (g f))) (·.pack = g s.ccr) :=
  ⟨_, rfl, Ccr.pack_ofByte _, rfl⟩

theorem pack_loaded (s : State) (a : Addr) :
    (Ccr.ofByte ((s.load16 a).1.extractLsb' 8 8)).pack.toNat = readsAs s a 2 / 256 := by
  rw [Ccr.pack_ofByte, upper_toNat, State.load16_value]

theorem loadCcr_loadsCcrFrom (s : State) (a : Addr) : loadsCcrFrom s (.next (loadCcr a s)) a :=
  ⟨_, rfl, pack_loaded s a, (s.readEffect_load16 a).congr rfl, rfl⟩

/-- Settles O36: each form by where its byte comes from. -/
theorem ccrWriteResults : Obligations.CcrWriteResults := by
  refine fun s => ⟨fun imm => setFlags_answersFlags s fun _ => imm, fun imm => setFlags_answersFlags s (·.pack &&& imm),
    fun imm => setFlags_answersFlags s (·.pack ||| imm), fun imm => setFlags_answersFlags s (·.pack ^^^ imm),
    fun rs => setFlags_answersFlags s fun _ => s.get8 rs, fun rs => loadCcr_loadsCcrFrom s _,
    fun disp rs => loadCcr_loadsCcrFrom s _, fun disp rs => loadCcr_loadsCcrFrom s _,
    fun abs => loadCcr_loadsCcrFrom s _, fun abs => loadCcr_loadsCcrFrom s _, fun rs => ?_⟩
  refine ⟨_, rfl, pack_loaded s _, (s.readEffect_load16 _).congr rfl, ?_, fun i hi => ?_, rfl⟩
  · exact (State.x_setX_self ..).trans (congrArg (· + 2) (s.load16_x _ _))
  · exact (State.x_setX_of_ne _ _ (Ne.symm hi)).trans (s.load16_x _ _)

/-! ### STC (`46_system.md` rule R1001) -/

theorem bytes16_append (hi lo : Byte) : bytes16 (hi ++ lo) = [hi, lo] := by
  rw [bytes16, BitVec.extractLsb'_append_eq_left, BitVec.extractLsb'_append_eq_right]

theorem storeCcr_writeEffect (s : State) (a : Addr) : ∃ low, WriteEffect s (storeCcr a s) a [s.ccr.pack, low] := by
  refine ⟨s.drawByte.1, ?_⟩
  have stored := State.writeEffect_store16 s.drawByte.2 a (s.ccr.pack ++ s.drawByte.1)
  rw [bytes16_append] at stored
  exact stored.congr ⟨rfl, rfl, rfl, rfl, rfl, rfl⟩ ⟨rfl, rfl, rfl, rfl, rfl, rfl⟩

theorem storeCcr_frame (s : State) (a : Addr) : s.sameButWritten (storeCcr a s) :=
  (State.sameButRead_drawByte s).written.trans (State.onlyStored_store16 ..).written

theorem storeCcr_storesCcrAt (s : State) (a : Addr) : storesCcrAt s (.next (storeCcr a s)) a := by
  obtain ⟨low, stored⟩ := storeCcr_writeEffect s a
  exact ⟨_, low, rfl, stored, State.store16_regs .., State.store16_ccr .., State.store16_pc .., storeCcr_frame s a⟩

/-- Settles O37: each form by where its word goes. -/
theorem ccrReadResults : Obligations.CcrReadResults := by
  refine fun s => ⟨fun rd => vB_answersByte s rd _ id _ rfl, fun rd => storeCcr_storesCcrAt s _,
    fun disp rd => storeCcr_storesCcrAt s _, fun disp rd => storeCcr_storesCcrAt s _,
    fun abs => storeCcr_storesCcrAt s _, fun abs => storeCcr_storesCcrAt s _, fun rd => ?_⟩
  have frame := (State.sameButRead_setX s (selIndex rd) (s.x (selIndex rd) - 2)).written.trans
    (storeCcr_frame _ (eaPreDec s 2 rd))
  obtain ⟨low, stored⟩ := storeCcr_writeEffect (s.setX (selIndex rd) (s.x (selIndex rd) - 2)) (eaPreDec s 2 rd)
  refine ⟨_, low, rfl, stored.congr ⟨rfl, rfl, rfl, rfl, rfl, rfl⟩ ⟨rfl, rfl, rfl, rfl, rfl, rfl⟩, ?_, fun i hi => ?_,
    State.store16_ccr .., State.store16_pc .., frame⟩
  · exact (State.store16_x ..).trans (State.x_setX_self ..)
  · exact (State.store16_x ..).trans (State.x_setX_of_ne _ _ (Ne.symm hi))

end Sys2Proof.Machine
end

section
/-! SUPPORT. What a register view reads, writes, loads and stores, said once for the three widths; MOV with memory by
it. From these, the statements on MOV with memory. -/

namespace Sys2Proof.Machine
set_option Elab.async false

/-! ### The register views and their accesses (`40_data_transfer.md` rules R400, R401) -/

/-- What a view reads and writes of the registers, with `only` its frame; and what its loads and stores of `k` bytes do,
with `bytes` the bytes of a value. -/
structure View.Lawful {n : Nat} (v : View n) (only : State → State → BitVec 4 → Prop) (k : Nat)
    (bytes : BitVec n → List Byte) : Prop where
  get_set (s : State) (rd : BitVec 4) (val : BitVec n) : v.get (v.set s rd val) rd = val
  only_set (s : State) (rd : BitVec 4) (val : BitVec n) : only s (v.set s rd val) rd
  set_eq (s : State) (rd : BitVec 4) (val : BitVec n) : ∃ w, v.set s rd val = s.setX (selIndex rd) w
  get_congr {s t : State} (h : t.regs = s.regs) (rd : BitVec 4) : v.get t rd = v.get s rd
  only_congr {s s' t t' : State} (h : s'.regs = s.regs) (h' : t'.regs = t.regs) {rd : BitVec 4} :
    only s t rd → only s' t' rd
  load_value (s : State) (a : Addr) : (v.load s a).1.toNat = readsAs s a k
  load_effect (s : State) (a : Addr) : ReadEffect s (v.load s a).2 a k
  load_frame (s : State) (a : Addr) : s.onlyLoaded (v.load s a).2
  store_effect (s : State) (a : Addr) (val : BitVec n) : WriteEffect s (v.store s a val) a (bytes val)
  store_frame (s : State) (a : Addr) (val : BitVec n) : s.onlyStored (v.store s a val)

section
variable {s t : State}

theorem State.x_congr (h : t.regs = s.regs) : t.x = s.x := by
  unfold State.x
  rw [h]

theorem State.get8_congr (h : t.regs = s.regs) : t.get8 = s.get8 := by
  unfold State.get8
  rw [State.x_congr h]

theorem State.get16_congr (h : t.regs = s.regs) : t.get16 = s.get16 := by
  unfold State.get16
  rw [State.x_congr h]

theorem State.get32_congr (h : t.regs = s.regs) : t.get32 = s.get32 := by
  unfold State.get32
  rw [State.x_congr h]

end

theorem vB_lawful : vB.Lawful onlyByte 1 fun v => [v] where
  get_set s rd val := (State.get8_set8 s rd rd val).trans (if_pos rfl)
  only_set := onlyByte_set8
  set_eq _ _ _ := ⟨_, rfl⟩
  get_congr h rd := congrFun (State.get8_congr h) rd
  only_congr h h' := by
    unfold onlyByte
    rw [State.get8_congr h, State.get8_congr h', State.get16_congr h, State.get16_congr h']
    exact id
  load_value := State.load8_value
  load_effect := State.readEffect_load8
  load_frame := State.onlyLoaded_load8
  store_effect := State.writeEffect_store8
  store_frame := State.onlyStored_store8

theorem vW_lawful : vW.Lawful onlyHalf 2 bytes16 where
  get_set s rd val := (State.get16_set16 s rd rd val).trans (if_pos rfl)
  only_set := onlyHalf_set16
  set_eq _ _ _ := ⟨_, rfl⟩
  get_congr h rd := congrFun (State.get16_congr h) rd
  only_congr h h' := by
    unfold onlyHalf
    rw [State.get16_congr h, State.get16_congr h']
    exact id
  load_value := State.load16_value
  load_effect := State.readEffect_load16
  load_frame := State.onlyLoaded_load16
  store_effect := State.writeEffect_store16
  store_frame := State.onlyStored_store16

theorem vL_lawful : vL.Lawful onlyLong 4 bytes32 where
  get_set s rd val := (State.get32_set32 s rd rd val).trans (if_pos rfl)
  only_set := onlyLong_set32
  set_eq _ _ _ := ⟨_, rfl⟩
  get_congr h rd := congrFun (State.get32_congr h) rd
  only_congr h h' := by
    unfold onlyLong
    rw [State.x_congr h, State.x_congr h']
    exact id
  load_value := State.load32_value
  load_effect := State.readEffect_load32
  load_frame := State.onlyLoaded_load32
  store_effect := State.writeEffect_store32
  store_frame := State.onlyStored_store32

/-! ### MOV at any width (`40_data_transfer.md` rules R402-R414, R419) -/

/-- `loadsByte`, `loadsHalf` and `loadsLong`, for a view. -/
def View.loads {n : Nat} (v : View n) (only : State → State → BitVec 4 → Prop) (k : Nat) (s : State) (o : Answer)
    (a : Addr) (rd : BitVec 4) (len : Addr) : Prop :=
  ∃ t, o = .next t ∧ (v.get t rd).toNat = readsAs s a k ∧ only s t rd ∧ moveFlagsAre (v.get t rd) s.ccr t.ccr
    ∧ t.pc = s.pc + len ∧ t.draws = s.draws ∧ ReadEffect s t a k ∧ s.sameButRead t

/-- The three parts of `MovPostIncrement`, for a view. -/
def View.postIncrements {n : Nat} (v : View n) (only : State → State → BitVec 4 → Prop) (k : Nat) (s : State)
    (o : Answer) (rs rd : BitVec 4) : Prop :=
  ∃ t w, o = .next t ∧ w.toNat = readsAs s (eaInd s rs) k
    ∧ ((v.get t rd = w ∧ only (s.setX (selIndex rs) (s.x (selIndex rs) + v.bytes)) t rd)
      ∨ (selIndex rs = selIndex rd ∧ t.regs = (s.setX (selIndex rs) (s.x (selIndex rs) + v.bytes)).regs))
    ∧ moveFlagsAre w s.ccr t.ccr ∧ t.pc = s.pc ∧ ReadEffect s t (eaInd s rs) k ∧ s.sameButRead t

section
variable {n : Nat} {v : View n} {only : State → State → BitVec 4 → Prop} {k : Nat} {bytes : BitVec n → List Byte}

theorem View.Lawful.set_mem (h : v.Lawful only k bytes) (s : State) (rd : BitVec 4) (val : BitVec n) :
    (v.set s rd val).mem = s.mem ∧ (v.set s rd val).ccr = s.ccr ∧ (v.set s rd val).pc = s.pc
      ∧ (v.set s rd val).draws = s.draws ∧ s.sameButRead (v.set s rd val) := by
  obtain ⟨w, hw⟩ := h.set_eq s rd val
  rw [hw]
  exact ⟨rfl, rfl, rfl, rfl, rfl⟩

/-- A value moved to a register after other changes of the registers alone. -/
theorem View.Lawful.moveTo_facts (h : v.Lawful only k bytes) (s : State) (rd : BitVec 4) (val : BitVec n) :
    v.get (moveTo v rd val s) rd = val ∧ only s (moveTo v rd val s) rd ∧ moveFlagsAre val s.ccr (moveTo v rd val s).ccr
      ∧ (moveTo v rd val s).pc = s.pc ∧ (moveTo v rd val s).draws = s.draws ∧ (moveTo v rd val s).mem = s.mem
      ∧ s.sameButRead (moveTo v rd val s) := by
  obtain ⟨mem, ccr, pc, draws, frame⟩ := h.set_mem s rd val
  refine ⟨(h.get_congr (s := v.set s rd val) (t := moveTo v rd val s) rfl rd).trans (h.get_set s rd val),
    h.only_congr (t := v.set s rd val) (t' := moveTo v rd val s) rfl rfl (h.only_set s rd val), ?_, pc, draws,
    mem, frame.trans rfl⟩
  show moveFlagsAre val s.ccr (movFlags val (v.set s rd val).ccr)
  rw [ccr]
  exact movFlags_moveFlagsAre val s.ccr

theorem View.Lawful.loads_moveLoad (h : v.Lawful only k bytes) (s : State) (a : Addr) (rd : BitVec 4) (len : Addr) :
    v.loads only k s (.next (advance len (moveLoad v a rd s))) a rd len := by
  have loaded := h.load_frame s a
  obtain ⟨get, others, flags, pc, draws, mem, frame⟩ := h.moveTo_facts (v.load s a).2 rd (v.load s a).1
  have same := loaded
  unfold State.onlyLoaded at same
  have get' : v.get (advance len (moveLoad v a rd s)) rd = (v.load s a).1 :=
    (h.get_congr (s := moveLoad v a rd s) (t := advance len (moveLoad v a rd s)) rfl rd).trans get
  have ccr : (v.load s a).2.ccr = s.ccr := by rw [same]
  refine ⟨_, rfl, ?_, h.only_congr (s := (v.load s a).2) (t := moveLoad v a rd s)
    (t' := advance len (moveLoad v a rd s)) (by rw [same]) rfl others, ?_, ?_, ?_, (h.load_effect s a).congr mem,
    loaded.read.trans (frame.trans rfl)⟩
  · rw [get', h.load_value]
  · rw [get', ← ccr]
    exact flags
  · exact congrArg (· + len) (pc.trans (by rw [same]))
  · exact draws.trans (by rw [same])

theorem View.Lawful.stores_moveStore (h : v.Lawful only k bytes) (s : State) (rs : BitVec 4) (a : Addr) (len : Addr) :
    stores s (.next (advance len (moveStore v rs a s))) a (v.get s rs) (bytes (v.get s rs)) len := by
  have stored := h.store_frame s a (v.get s rs)
  have same := stored
  unfold State.onlyStored at same
  have ccr : (v.store s a (v.get s rs)).ccr = s.ccr := by rw [same]
  refine ⟨_, rfl, (h.store_effect s a (v.get s rs)).congr ⟨rfl, rfl, rfl, rfl, rfl, rfl⟩ ⟨rfl, rfl, rfl, rfl, rfl, rfl⟩,
    ?_, ?_, ?_, ?_, stored.written.trans rfl⟩
  · show moveFlagsAre _ s.ccr (movFlags _ (v.store s a (v.get s rs)).ccr)
    rw [ccr]
    exact movFlags_moveFlagsAre _ _
  · show (v.store s a (v.get s rs)).regs = s.regs
    rw [same]
  · show (v.store s a (v.get s rs)).pc + len = s.pc + len
    rw [same]
  · show (v.store s a (v.get s rs)).draws = s.draws
    rw [same]

end

theorem advance_zero (s : State) : advance 0 s = s := by
  show s.setPc (s.pc + 0#16) = s
  rw [BitVec.add_zero]
  rfl

/-- Settles O12: each form is `moveLoad` at its address, self-sizing or not. -/
theorem movLoads : Obligations.MovLoads := by
  intro s
  have byte (a : Addr) (rd : Sel) : loadsByte s (.next (moveLoad vB a rd s)) a rd 0 :=
    advance_zero (moveLoad vB a rd s) ▸ vB_lawful.loads_moveLoad s a rd 0
  have half (a : Addr) (rd : Sel) : loadsHalf s (.next (moveLoad vW a rd s)) a rd 0 :=
    advance_zero (moveLoad vW a rd s) ▸ vW_lawful.loads_moveLoad s a rd 0
  have long (a : Addr) (rd : ErSel) : loadsLong s (.next (moveLoad vL a rd s)) a rd 0 :=
    advance_zero (moveLoad vL a rd s) ▸ vL_lawful.loads_moveLoad s a rd 0
  exact ⟨fun _ _ => byte _ _, fun _ _ _ => byte _ _, fun _ _ _ => byte _ _, fun _ _ => byte _ _,
    fun _ _ => vB_lawful.loads_moveLoad s _ _ 4, fun _ _ => vB_lawful.loads_moveLoad s _ _ 6,
    fun _ _ => half _ _, fun _ _ _ => half _ _, fun _ _ _ => half _ _,
    fun _ _ => vW_lawful.loads_moveLoad s _ _ 4, fun _ _ => vW_lawful.loads_moveLoad s _ _ 6,
    fun _ _ => long _ _, fun _ _ _ => long _ _, fun _ _ _ => long _ _, fun _ _ => long _ _, fun _ _ => long _ _⟩

/-- Settles O13: each form is `moveStore` at its address, self-sizing or not. -/
theorem movStores : Obligations.MovStores := by
  intro s
  have byte (rs : Sel) (a : Addr) : stores s (.next (moveStore vB rs a s)) a (s.get8 rs) [s.get8 rs] 0 :=
    advance_zero (moveStore vB rs a s) ▸ vB_lawful.stores_moveStore s rs a 0
  have half (rs : Sel) (a : Addr) : stores s (.next (moveStore vW rs a s)) a (s.get16 rs) (bytes16 (s.get16 rs)) 0 :=
    advance_zero (moveStore vW rs a s) ▸ vW_lawful.stores_moveStore s rs a 0
  have long (rs : ErSel) (a : Addr) : stores s (.next (moveStore vL rs a s)) a (s.get32 rs) (bytes32 (s.get32 rs)) 0 :=
    advance_zero (moveStore vL rs a s) ▸ vL_lawful.stores_moveStore s rs a 0
  exact ⟨fun _ _ => byte _ _, fun _ _ _ => byte _ _, fun _ _ _ => byte _ _, fun _ _ => byte _ _,
    fun _ _ => vB_lawful.stores_moveStore s _ _ 4, fun _ _ => vB_lawful.stores_moveStore s _ _ 6,
    fun _ _ => half _ _, fun _ _ _ => half _ _, fun _ _ _ => half _ _,
    fun _ _ => vW_lawful.stores_moveStore s _ _ 4, fun _ _ => vW_lawful.stores_moveStore s _ _ 6,
    fun _ _ => long _ _, fun _ _ _ => long _ _, fun _ _ _ => long _ _, fun _ _ => long _ _, fun _ _ => long _ _⟩

/-! ### Post-increment and pre-decrement (`40_data_transfer.md` rules R405, R406, R411) -/

section
variable {n : Nat} {v : View n} {only : State → State → BitVec 4 → Prop} {k : Nat} {bytes : BitVec n → List Byte}

/-- The load's register and its increment, in either order. -/
theorem moveLoadInc_cases (v : View n) (rs rd : BitVec 4) (s : State) {r : BitVec n × State}
    (hr : r = v.load s (eaInd s rs)) {next : Long} (hnext : next = r.2.x (selIndex rs) + v.bytes) :
    ∃ d, moveLoadInc v rs rd s = moveTo v rd r.1 ({ r.2 with draws := d }.setX (selIndex rs) next)
      ∨ selIndex rs = selIndex rd
        ∧ moveLoadInc v rs rd s = (moveTo v rd r.1 { r.2 with draws := d }).setX (selIndex rs) next := by
  subst hr hnext
  unfold moveLoadInc
  dsimp only
  split
  case isTrue overlap =>
    refine ⟨(v.load s (eaInd s rs)).2.draws + 1, ?_⟩
    split
    · exact .inl rfl
    · exact .inr ⟨overlap, rfl⟩
  case isFalse => exact ⟨(v.load s (eaInd s rs)).2.draws, .inl rfl⟩

/-- A register set twice has the second value. -/
theorem State.setX_setX_regs (s : State) (i : Fin 8) (x y : Long) :
    ((s.setX i x).setX i y).regs = (s.setX i y).regs := by
  refine State.regs_ext fun j => ?_
  rw [State.x_setX, State.x_setX, State.x_setX]
  split <;> rfl

theorem View.Lawful.postIncrements_moveLoadInc (h : v.Lawful only k bytes) (s : State) (rs rd : BitVec 4) :
    v.postIncrements only k s (.next (moveLoadInc v rs rd s)) rs rd := by
  have loaded := h.load_frame s (eaInd s rs)
  have effect := h.load_effect s (eaInd s rs)
  have value := h.load_value s (eaInd s rs)
  obtain ⟨d, forms⟩ := moveLoadInc_cases v rs rd s rfl rfl
  generalize moveLoadInc v rs rd s = t at forms
  generalize v.load s (eaInd s rs) = r at loaded effect value forms
  have same := loaded
  unfold State.onlyLoaded at same
  have next : r.2.x (selIndex rs) + v.bytes = s.x (selIndex rs) + v.bytes := by rw [same]; rfl
  rw [next] at forms
  have incremented : ({ r.2 with draws := d }.setX (selIndex rs) (s.x (selIndex rs) + v.bytes)).regs
      = (s.setX (selIndex rs) (s.x (selIndex rs) + v.bytes)).regs := by rw [same]; rfl
  have drawn : s.sameButRead { r.2 with draws := d } := loaded.read.trans rfl
  have ccr : r.2.ccr = s.ccr := by rw [same]
  have pc : r.2.pc = s.pc := by rw [same]
  obtain rfl | ⟨overlap, rfl⟩ := forms
  · obtain ⟨get, others, flags, pc', -, mem, frame⟩ :=
      h.moveTo_facts ({ r.2 with draws := d }.setX (selIndex rs) (s.x (selIndex rs) + v.bytes)) rd r.1
    refine ⟨_, r.1, rfl, value, .inl ⟨get, h.only_congr incremented.symm rfl others⟩, ?_, pc'.trans pc,
      effect.congr mem, drawn.trans ((State.sameButRead_setX ..).trans frame)⟩
    rw [← ccr]
    exact flags
  · obtain ⟨-, -, flags, pc', -, mem, frame⟩ := h.moveTo_facts { r.2 with draws := d } rd r.1
    obtain ⟨w, moved⟩ := h.set_eq { r.2 with draws := d } rd r.1
    refine ⟨_, r.1, rfl, value, .inr ⟨overlap, ?_⟩, ?_, pc'.trans pc, effect.congr mem,
      drawn.trans (frame.trans (State.sameButRead_setX ..))⟩
    · rw [← incremented, moveTo, moved, overlap]
      exact State.setX_setX_regs { r.2 with draws := d } (selIndex rd) w _
    · rw [← ccr]
      exact flags

/-- The store of the value of before or of after the decrement. -/
theorem moveStoreDec_cases (v : View n) (rs rd : BitVec 4) (s : State) {s' : State}
    (hs : s' = s.setX (selIndex rd) (s.x (selIndex rd) - v.bytes)) :
    ∃ d val, (val = v.get s rs ∨ selIndex rs = selIndex rd ∧ val = v.get { s' with draws := d } rs)
      ∧ moveStoreDec v rs rd s
        = (v.store { s' with draws := d } (eaPreDec s v.bytes rd) val).setFlags (movFlags val) := by
  subst hs
  unfold moveStoreDec
  dsimp only
  split
  case isTrue overlap =>
    refine ⟨s.draws + 1, _, ?_, rfl⟩
    split
    · exact .inl rfl
    · exact .inr ⟨overlap, rfl⟩
  case isFalse => exact ⟨s.draws, _, .inl rfl, rfl⟩

theorem View.Lawful.storesDown_moveStoreDec (h : v.Lawful only k bytes) (s : State) (rs rd : BitVec 4) :
    storesDown s (.next (moveStoreDec v rs rd s)) rs rd v.bytes (v.get · rs) bytes := by
  obtain ⟨d, val, source, executed⟩ := moveStoreDec_cases v rs rd s rfl
  have stored := h.store_frame { s.setX (selIndex rd) (s.x (selIndex rd) - v.bytes) with draws := d }
    (eaPreDec s v.bytes rd) val
  have effect := h.store_effect { s.setX (selIndex rd) (s.x (selIndex rd) - v.bytes) with draws := d }
    (eaPreDec s v.bytes rd) val
  rw [executed]
  generalize v.store _ _ val = t at stored effect
  have same := stored
  unfold State.onlyStored at same
  have ccr : t.ccr = s.ccr := by rw [same]; rfl
  have decremented := (State.sameButRead_setX s (selIndex rd) (s.x (selIndex rd) - v.bytes)).written
  refine ⟨_, val, rfl, ?_, effect.congr ⟨rfl, rfl, rfl, rfl, rfl, rfl⟩ ⟨rfl, rfl, rfl, rfl, rfl, rfl⟩, ?_, ?_, ?_,
    decremented.trans ((State.sameButWritten.trans (m := { s.setX _ _ with draws := d }) rfl stored.written).trans rfl)⟩
  · obtain before | ⟨overlap, after⟩ := source
    · exact .inl before
    · exact .inr ⟨overlap, after.trans (h.get_congr (s := s.setX _ _) (t := { s.setX _ _ with draws := d }) rfl rs)⟩
  · show moveFlagsAre val s.ccr (movFlags val t.ccr)
    rw [ccr]
    exact movFlags_moveFlagsAre val s.ccr
  · show t.regs = _
    rw [same]
  · show t.pc = _
    rw [same]
    rfl

end

/-- Settles O14: `moveLoadInc` at the three widths. -/
theorem movPostIncrement : Obligations.MovPostIncrement := fun s rs =>
  ⟨vB_lawful.postIncrements_moveLoadInc s rs, vW_lawful.postIncrements_moveLoadInc s rs,
    vL_lawful.postIncrements_moveLoadInc s rs⟩

/-- Settles O15: `moveStoreDec` at the three widths. -/
theorem movPreDecrement : Obligations.MovPreDecrement := fun s =>
  ⟨vB_lawful.storesDown_moveStoreDec s, vW_lawful.storesDown_moveStoreDec s, vL_lawful.storesDown_moveStoreDec s⟩

end Sys2Proof.Machine
end

section
/-! SUPPORT. The block moves byte by byte: registers, memory, hooks and frame of one byte's copy, and of `k` of them.
From these, the statement on EEPMOV. -/

namespace Sys2Proof.Machine
set_option Elab.async false

/-! ### Memory after a block copy (`40_data_transfer.md` rule R416) -/

theorem Image.copied_length (io : IoMap) (m : Image) (src dst : Addr) (n : Nat) :
    (Image.copied io m src dst n).length = n := by
  induction n generalizing m src dst with
  | zero => rfl
  | succ n ih => rw [Image.copied, List.length_cons, ih]

/-- A block copy leaves every byte that is not in its destination and holds no flag that its hooks clear. -/
theorem Image.copy_other (io : IoMap) (n : Nat) (m : Image) (src dst : Addr) (hn : n < 65536) {x : Addr}
    (hx : ¬ inRange dst n x) (hw : ¬ clearedByWrite io dst n x) (hr : ¬ clearedByRead io src n x) :
    Image.copy io m src dst n x = m x := by
  induction n generalizing m src dst with
  | zero => rfl
  | succ n ih =>
    rw [inRange_succ (by omega), not_or] at hx
    rw [clearedByWrite_succ (by omega), not_or] at hw
    rw [clearedByRead_succ (by omega), not_or] at hr
    rw [Image.copy, ih _ _ _ (by omega) hx.2 hw.2 hr.2, Image.write_other _ _ _ _ hx.1 hw.1,
      Image.read_other _ _ _ hr.1]

/-! ### Hooks of no write, and of one -/

theorem hookEffect_nil (s : State) (a : Addr) : HookEffect s s a [] where
  latched _ hk := absurd hk (Nat.not_lt_zero _)
  notLatched _ := rfl
  eepReset := fun ⟨_, hk, _⟩ => absurd hk (Nat.not_lt_zero _)
  eepKept _ := rfl
  accReset := fun ⟨_, hk, _⟩ => absurd hk (Nat.not_lt_zero _)
  accKept _ := rfl
  lcdReset := fun ⟨_, hk, _⟩ => absurd hk (Nat.not_lt_zero _)
  lcdKept _ := rfl

/-! ### One byte -/

/-- `t` is `s` but for registers and what a firmware write may touch: what a block move may change. -/
def State.onlyMoved (s t : State) : Prop :=
  t = { s with regs := t.regs, mem := t.mem, tb1Load := t.tb1Load, eep := t.eep, acc := t.acc, lcd := t.lcd }

theorem State.onlyMoved.trans {s m t : State} (h₁ : s.onlyMoved m) (h₂ : m.onlyMoved t) : s.onlyMoved t := by
  unfold State.onlyMoved at *
  rw [h₂, h₁]

theorem State.onlyMoved.written {s t : State} (h : s.onlyMoved t) : s.sameButWritten t := by
  unfold State.onlyMoved State.sameButWritten at *
  rw [h]

/-- A view of register 4 as a part of its value: what it reads and what a write makes of the value. -/
structure View.Reads {n : Nat} (v : View n) (r : BitVec 4) (pick : Long → BitVec n) (put : Long → BitVec n → Long) :
    Prop where
  get_eq (s : State) : v.get s r = pick (s.x 4)
  set_eq (s : State) (val : BitVec n) : v.set s r val = s.setX 4 (put (s.x 4) val)
  pick_put (w : Long) (val : BitVec n) : pick (put w val) = val

theorem vB_reads : vB.Reads 0xC (byteOf 0xC) (withByte 0xC) :=
  ⟨fun _ => rfl, fun _ _ => rfl, byteOf_withByte 0xC⟩

theorem vW_reads : vW.Reads 4 (halfOf 4) (withHalf 4) := ⟨fun _ => rfl, fun _ _ => rfl, halfOf_withHalf 4⟩

section
variable {n : Nat} {v : View n} {r : BitVec 4} {pick : Long → BitVec n} {put : Long → BitVec n → Long}

/-- The counter's register after one byte. -/
def countDown (pick : Long → BitVec n) (put : Long → BitVec n → Long) (w : Long) : Long := put w (pick w - 1)

theorem pick_countDown (h : v.Reads r pick put) (k : Nat) (w : Long) :
    pick ((countDown pick put)^[k] w) = pick w - BitVec.ofNat n k := by
  induction k generalizing w with
  | zero => simp
  | succ k ih =>
    rw [Function.iterate_succ_apply, ih, countDown, h.pick_put, BitVec.ofNat_add]
    rw [BitVec.sub_sub, BitVec.add_comm]
    rfl

/-- What a write of the counter leaves of its register is as it was. -/
theorem countDown_keeps {A : Type} {keep : Long → A} (h : ∀ w val, keep (put w val) = keep w) (k : Nat) (w : Long) :
    keep ((countDown pick put)^[k] w) = keep w := by
  induction k generalizing w with
  | zero => rfl
  | succ k ih => rw [Function.iterate_succ_apply, ih, countDown, h]

/-- The registers after `k` bytes of a block move. -/
def countedX (pick : Long → BitVec n) (put : Long → BitVec n → Long) (k : Nat) (x : Fin 8 → Long) (j : Fin 8) : Long :=
  if j = 4 then (countDown pick put)^[k] (x 4)
  else if j = 5 ∨ j = 6 then x j + BitVec.ofNat 32 k
  else x j

theorem x_blockMoveByte (h : v.Reads r pick put) (s : State) :
    (blockMoveByte v r s).x = countedX pick put 1 s.x := by
  funext j
  unfold blockMoveByte
  dsimp only
  generalize hm : (s.load8 (eaInd s 5)).2.store8 _ _ = m
  have same : m.x = s.x := by rw [← hm]; rfl
  rw [h.set_eq, h.get_eq]
  simp only [State.x_setX, same]
  fin_cases j <;> rfl

theorem x_blockMoveLoop (h : v.Reads r pick put) (k : Nat) (s : State) :
    (blockMoveLoop v r k s).x = countedX pick put k s.x := by
  induction k generalizing s with
  | zero =>
    funext j
    fin_cases j <;> simp [blockMoveLoop, countedX]
  | succ k ih =>
    funext j
    rw [blockMoveLoop, ih, x_blockMoveByte h]
    have count (w : Long) : w + BitVec.ofNat 32 1 + BitVec.ofNat 32 k = w + BitVec.ofNat 32 (k + 1) := by
      rw [BitVec.add_assoc, BitVec.ofNat_add, BitVec.add_comm (BitVec.ofNat 32 k)]
    fin_cases j <;> simp [countedX, count]

/-- What the rest of the state is after one byte: the byte is read and written, with its hooks. -/
theorem blockMoveByte_effect (h : v.Reads r pick put) (s : State) :
    (blockMoveByte v r s).raw = (Image.read s.cfg.io s.raw (eaInd s 5)).write s.cfg.io (eaInd s 6) (s.raw (eaInd s 5))
      ∧ HookEffect s (blockMoveByte v r s) (eaInd s 6) [s.raw (eaInd s 5)] ∧ s.onlyMoved (blockMoveByte v r s) := by
  unfold blockMoveByte
  dsimp only
  rw [h.set_eq]
  refine ⟨?_, ?_, rfl⟩
  · exact (State.image_store8 (s.readHook (eaInd s 5)) (eaInd s 6) _).trans (by rw [State.image_readHook]; rfl)
  · exact (State.hookEffect_store8 (s.readHook (eaInd s 5)) (eaInd s 6) (s.raw (eaInd s 5))).congr
      ⟨rfl, rfl, rfl, rfl, rfl⟩ ⟨rfl, rfl, rfl, rfl, rfl⟩

theorem eaInd_blockMoveByte (h : v.Reads r pick put) (s : State) :
    eaInd (blockMoveByte v r s) 5 = eaInd s 5 + 1 ∧ eaInd (blockMoveByte v r s) 6 = eaInd s 6 + 1 := by
  have next (w : Long) : (w + BitVec.ofNat 32 1).setWidth 16 = w.setWidth 16 + 1 := by bv_omega
  unfold eaInd
  rw [x_blockMoveByte h]
  exact ⟨next (s.x 5), next (s.x 6)⟩

/-- `k` bytes of a block move: memory, hooks and frame. -/
theorem blockMoveLoop_effect (h : v.Reads r pick put) (k : Nat) (hk : k < 65536) (s : State) :
    (blockMoveLoop v r k s).raw = Image.copy s.cfg.io s.raw (eaInd s 5) (eaInd s 6) k
      ∧ HookEffect s (blockMoveLoop v r k s) (eaInd s 6) (Image.copied s.cfg.io s.raw (eaInd s 5) (eaInd s 6) k)
      ∧ s.onlyMoved (blockMoveLoop v r k s) := by
  induction k generalizing s with
  | zero => exact ⟨rfl, hookEffect_nil s _, rfl⟩
  | succ k ih =>
    obtain ⟨image, hooks, frame⟩ := ih (by omega) (blockMoveByte v r s)
    obtain ⟨image₁, hooks₁, frame₁⟩ := blockMoveByte_effect h s
    obtain ⟨src, dst⟩ := eaInd_blockMoveByte h s
    have cfg : (blockMoveByte v r s).cfg = s.cfg := by
      unfold State.onlyMoved at frame₁
      rw [frame₁]
    rw [src, dst, cfg, image₁] at image hooks
    refine ⟨image, ?_, frame₁.trans frame⟩
    have length := Image.copied_length s.cfg.io
      ((Image.read s.cfg.io s.raw (eaInd s 5)).write s.cfg.io (eaInd s 6) (s.raw (eaInd s 5))) (eaInd s 5 + 1)
      (eaInd s 6 + 1) k
    refine hooks₁.append ?_ cfg hooks
    rw [length, List.length_singleton]
    omega

end

/-! ### EEPMOV (`40_data_transfer.md` rules R416, R417) -/

section
variable {n : Nat} {v : View n} {r : BitVec 4} {pick : Long → BitVec n} {put : Long → BitVec n → Long}

theorem blockMove_effect (h : v.Reads r pick put) (hn : n ≤ 16) (s : State) {k : Nat} (hk : k = (v.get s r).toNat)
    {t : State} (ht : t = blockMove v r s) :
    pick (t.x 4) = 0
      ∧ (∀ {A : Type} {keep : Long → A}, (∀ w val, keep (put w val) = keep w) → keep (t.x 4) = keep (s.x 4))
      ∧ t.x 5 = s.x 5 + BitVec.ofNat 32 k ∧ t.x 6 = s.x 6 + BitVec.ofNat 32 k
      ∧ (∀ j : Fin 8, j ≠ 4 → j ≠ 5 → j ≠ 6 → t.x j = s.x j)
      ∧ (∀ x, t.raw x = Image.copy s.cfg.io s.raw (eaInd s 5) (eaInd s 6) k x)
      ∧ (∀ x, ¬ inRange (eaInd s 6) k x → ¬ clearedByWrite s.cfg.io (eaInd s 6) k x
          → ¬ clearedByRead s.cfg.io (eaInd s 5) k x → t.raw x = s.raw x)
      ∧ HookEffect s t (eaInd s 6) (Image.copied s.cfg.io s.raw (eaInd s 5) (eaInd s 6) k)
      ∧ t.ccr = s.ccr ∧ t.pc = s.pc ∧ t.draws = s.draws ∧ s.sameButWritten t := by
  have small : k < 65536 := by
    rw [hk]
    exact lt_of_lt_of_le (v.get s r).isLt (Nat.pow_le_pow_right (n := 2) (by decide) hn)
  have x := x_blockMoveLoop h k s
  obtain ⟨image, hooks, frame⟩ := blockMoveLoop_effect h k small s
  rw [blockMove, ← hk] at ht
  rw [← ht] at x image hooks frame
  have same := frame
  unfold State.onlyMoved at same
  refine ⟨?_, fun kept => ?_, ?_, ?_, fun j h₄ h₅ h₆ => ?_, congrFun image, fun a ha hw hr => ?_, hooks, by rw [same],
    by rw [same], by rw [same], frame.written⟩
  · have counted : t.x 4 = (countDown pick put)^[k] (s.x 4) := by rw [x]; rfl
    rw [counted, pick_countDown h, hk, h.get_eq, BitVec.ofNat_toNat, BitVec.setWidth_eq, BitVec.sub_self]
    rfl
  · have counted : t.x 4 = (countDown pick put)^[k] (s.x 4) := by rw [x]; rfl
    rw [counted, countDown_keeps kept]
  · rw [x]
    rfl
  · rw [x]
    rfl
  · rw [x, countedX, if_neg h₄, if_neg (by simp [h₅, h₆])]
  · rw [image]
    exact Image.copy_other _ _ _ _ _ small ha hw hr

end

/-- Settles O16: `blockMove` by the byte and by the half of register 4. -/
theorem blockMoves : Obligations.BlockMoves := by
  rintro s i n (⟨rfl, hn⟩ | ⟨rfl, hn⟩)
  · obtain ⟨zero, keeps, effect⟩ := blockMove_effect vB_reads (by decide) s hn rfl
    exact ⟨_, rfl, fun _ => ⟨zero, keeps fun w val => byteOf_withByte_other (by decide) w val⟩, nofun,
      keeps fun w val => high_withByte 0xC w val, effect⟩
  · obtain ⟨zero, keeps, effect⟩ := blockMove_effect vW_reads (by decide) s hn rfl
    exact ⟨_, rfl, nofun, fun _ => zero, keeps fun w val => halfOf_withHalf_other (by decide) w val, effect⟩

end Sys2Proof.Machine
end

section
/-! SUPPORT. Fields of a valid layout by their places; what a prescale answers; Timer B1 and Timer W over one
advancement, Timer B1 over many. From these, the statements on the prescale and on Timer B1. -/

namespace Sys2Proof.Machine
set_option Elab.async false

/-! ### Fields by their places in `IoMap.otherPieces` (`10_state.md` rule R141) -/

section
variable {c : Config} (hv : c.valid = true) (i j : Nat)
include hv

theorem Config.bits_disjoint (hij : i ≠ j) {f g : BitLoc} (hf : c.io.otherPieces[i]? = some f.piece)
    (hg : c.io.otherPieces[j]? = some g.piece) : f.piece.disjoint g.piece = true := by
  obtain h | h := Nat.lt_or_gt_of_ne hij
  · exact IoMap.disjoint_of_valid (Config.io_valid hv) h hf hg
  · exact (Piece.disjoint_comm _ _).trans (IoMap.disjoint_of_valid (Config.io_valid hv) h hg hf)

theorem Config.byte_ne_bit (hij : i ≠ j) {a : Addr} {f : BitLoc} (ha : c.io.otherPieces[i]? = some (a, 0xFF#8))
    (hf : c.io.otherPieces[j]? = some f.piece) : a ≠ f.addr := by
  refine addr_ne_of_disjoint ?_
  obtain h | h := Nat.lt_or_gt_of_ne hij
  · exact IoMap.disjoint_of_valid (Config.io_valid hv) h ha hf
  · exact (Piece.disjoint_comm _ _).trans (IoMap.disjoint_of_valid (Config.io_valid hv) h hf ha)

theorem Config.byte_ne_byte (hij : i ≠ j) {a b : Addr} (ha : c.io.otherPieces[i]? = some (a, 0xFF#8))
    (hb : c.io.otherPieces[j]? = some (b, 0xFF#8)) : a ≠ b := by
  refine addr_ne_of_disjoint_bytes ?_
  obtain h | h := Nat.lt_or_gt_of_ne hij
  · exact IoMap.disjoint_of_valid (Config.io_valid hv) h ha hb
  · exact (Piece.disjoint_comm _ _).trans (IoMap.disjoint_of_valid (Config.io_valid hv) h hb ha)

theorem Config.byte_ne_field (hij : i < j) {a : Addr} {f : FieldLoc} (hlo : f.lo.toNat ≤ f.hi.toNat)
    (hf : c.io.otherPieces[i]? = some f.piece) (ha : c.io.otherPieces[j]? = some (a, 0xFF#8)) : f.addr ≠ a :=
  addr_ne_of_disjoint_field hlo (IoMap.disjoint_of_valid (Config.io_valid hv) hij hf ha)

theorem Config.timer_fields :
    c.io.tb1Cks.lo.toNat ≤ c.io.tb1Cks.hi.toNat ∧ c.io.twCks.lo.toNat ≤ c.io.twCks.hi.toNat := by
  have io := Config.io_valid hv
  simp only [IoMap.valid, Bool.and_eq_true, List.all_cons, List.all_nil, beq_iff_eq] at io
  obtain ⟨⟨-, hb, hw, -⟩, -⟩ := io
  omega

end

/-! ### Runs of a unit -/

theorem times_succ' (unit : State → State) (n : Nat) (s : State) : times unit (n + 1) s = unit (times unit n s) := by
  induction n generalizing s with
  | zero => rfl
  | succ n ih => exact ih (unit s)

/-! ### The prescale (`60_exceptions.md` rule R1201) -/

section
variable {map : List (Option Nat)} {code pre : Nat}

theorem prescale_stopped : prescale false map code pre = some (pre, false) := rfl

theorem prescale_none (h : map.getD code none = none) : prescale true map code pre = none := by
  unfold prescale
  rw [if_pos rfl, h]

theorem prescale_some {N : Nat} (h : map.getD code none = some N) :
    prescale true map code pre = if N ≤ pre + 1 then some (0, true) else some (pre + 1, false) := by
  unfold prescale
  rw [if_pos rfl, h]

/-- A divisor of a valid list is positive. -/
theorem divisor_pos {allowed : List (Option Nat)} (hall : map.all (fun d => allowed.contains d) = true)
    (hpos : some 0 ∉ allowed) {N : Nat} (h : map.getD code none = some N) : 0 < N := by
  rw [List.getD_eq_getElem?_getD] at h
  cases hget : map[code]? with
  | none => rw [hget] at h; exact nomatch h
  | some d =>
    rw [hget] at h
    obtain rfl : d = some N := h
    have listed : some N ∈ allowed := by
      simpa using List.all_eq_true.1 hall _ (List.mem_of_getElem? hget)
    rcases Nat.eq_zero_or_pos N with rfl | pos
    · exact absurd listed hpos
    · exact pos

end

theorem tb1Divisor_pos {c : Config} (hv : c.valid = true) {code N : Nat} (h : c.tb1Prescale.getD code none = some N) :
    0 < N := by
  have all : c.tb1Prescale.all (fun d => [none, some 256, some 1024].contains d) = true := by
    simp only [Config.valid, Bool.and_eq_true] at hv
    tauto
  exact divisor_pos all (by decide) h

theorem twDivisor_pos {c : Config} (hv : c.valid = true) {code M : Nat} (h : c.twPrescale.getD code none = some M) :
    0 < M := by
  have all : c.twPrescale.all (fun d => [none, some 1, some 4, some 16].contains d) = true := by
    simp only [Config.valid, Bool.and_eq_true] at hv
    tauto
  exact divisor_pos all (by decide) h

/-! ### One advancement (`60_exceptions.md` rules R1201, R1202, R1205) -/

section
variable {s : State} {N : Nat}

theorem timerB1Advance_stopped (h : s.tb1Running = false) : s.timerB1Advance = s := by
  simp only [State.timerB1Advance, h, prescale_stopped]
  rfl

theorem timerB1Advance_noDivisor (h : s.tb1Running = true)
    (hN : s.cfg.tb1Prescale.getD (s.field s.cfg.io.tb1Cks) none = none) :
    s.timerB1Advance = s.raise (.configError .b1 (s.field s.cfg.io.tb1Cks)) none := by
  simp only [State.timerB1Advance, h, prescale_none hN]

theorem timerB1Advance_running (h : s.tb1Running = true)
    (hN : s.cfg.tb1Prescale.getD (s.field s.cfg.io.tb1Cks) none = some N) :
    s.timerB1Advance
      = if N ≤ s.tb1Pre + 1 then { s with tb1Pre := 0 }.tb1Count else { s with tb1Pre := s.tb1Pre + 1 } := by
  by_cases due : N ≤ s.tb1Pre + 1
  · simp only [State.timerB1Advance, h, prescale_some hN, if_pos due]
    rfl
  · simp only [State.timerB1Advance, h, prescale_some hN, if_neg due]
    rfl

theorem timerWAdvance_stopped (h : s.twRunning = false) : s.timerWAdvance = s.twDeliver false false := by
  simp only [State.timerWAdvance, h, prescale_stopped]
  rfl

theorem timerWAdvance_noDivisor (h : s.twRunning = true)
    (hN : s.cfg.twPrescale.getD (s.field s.cfg.io.twCks) none = none) :
    s.timerWAdvance = s.raise (.configError .w (s.field s.cfg.io.twCks)) none := by
  simp only [State.timerWAdvance, h, prescale_none hN]

theorem timerWAdvance_counts (h : s.twRunning = true)
    (hN : s.cfg.twPrescale.getD (s.field s.cfg.io.twCks) none = some N) (due : N ≤ s.twPre + 1) :
    s.timerWAdvance = { s with twPre := 0 }.twCount.1.twDeliver { s with twPre := 0 }.twCount.2.1
      { s with twPre := 0 }.twCount.2.2 := by
  simp only [State.timerWAdvance, h, prescale_some hN, if_pos due]
  rfl

theorem timerWAdvance_waits (h : s.twRunning = true)
    (hN : s.cfg.twPrescale.getD (s.field s.cfg.io.twCks) none = some N) (wait : s.twPre + 1 < N) :
    s.timerWAdvance = { s with twPre := s.twPre + 1 }.twDeliver false false := by
  simp only [State.timerWAdvance, h, prescale_some hN, if_neg (Nat.not_le.2 wait)]
  rfl

theorem twDeliver_masked (h : s.ccr.i = true) (m o : Bool) : s.twDeliver m o = s := by
  unfold State.twDeliver
  dsimp only
  rw [h]
  exact if_neg Bool.false_ne_true

theorem twDeliver_edge (h : s.cfg.twIrqLevel = false) : s.twDeliver false false = s := by
  unfold State.twDeliver
  dsimp only
  rw [h]
  exact if_neg (by simp)

end

/-- Settles O51: the prescale without a divisor, and the stopped timers. -/
theorem prescaleFaultsAndHolds : Obligations.PrescaleFaultsAndHolds := fun _ =>
  ⟨timerB1Advance_noDivisor, timerB1Advance_stopped, timerWAdvance_noDivisor, fun stopped quiet =>
    (timerWAdvance_stopped stopped).trans (quiet.elim (fun masked => twDeliver_masked masked _ _) twDeliver_edge)⟩

/-! ### Timer B1 over many advancements -/

section
variable {s u : State} {N : Nat}

/-- Timer B1 has counted `k` times and its prescale counter stands at `p`; nothing else has changed. -/
def State.tb1At (s u : State) (k p : Nat) : Prop :=
  (u.raw s.cfg.io.tb1Cnt).toNat = (s.raw s.cfg.io.tb1Cnt).toNat + k
    ∧ (∀ x, x ≠ s.cfg.io.tb1Cnt → u.raw x = s.raw x) ∧ u = { s with mem := u.mem, tb1Pre := p }

theorem State.tb1At.cfg {k p : Nat} (h : s.tb1At u k p) : u.cfg = s.cfg := by
  rw [h.2.2]

theorem State.tb1At.tb1Pre {k p : Nat} (h : s.tb1At u k p) : u.tb1Pre = p := by
  rw [h.2.2]

/-- While only the counter changes, the timer runs on with its divisor. -/
theorem State.tb1At.control {k p : Nat} (hv : s.cfg.valid = true) (h : s.tb1At u k p) :
    u.tb1Running = s.tb1Running ∧ u.field u.cfg.io.tb1Cks = s.field s.cfg.io.tb1Cks := by
  have cfg := h.cfg
  obtain ⟨-, others, -⟩ := h
  have stby := Config.byte_ne_bit hv 38 12 (by decide) (a := s.cfg.io.tb1Cnt) (f := s.cfg.io.tb1Stby) rfl rfl
  have run := Config.byte_ne_bit hv 38 11 (by decide) (a := s.cfg.io.tb1Cnt) (f := s.cfg.io.tb1Run) rfl rfl
  have cks := Config.byte_ne_field hv 34 38 (by decide) (f := s.cfg.io.tb1Cks) (a := s.cfg.io.tb1Cnt)
    (Config.timer_fields hv).1 rfl rfl
  unfold State.tb1Running
  rw [cfg, State.bit_congr _ (others _ (Ne.symm stby)), State.bit_congr _ (others _ (Ne.symm run))]
  exact ⟨rfl, State.field_congr _ (others _ cks)⟩

theorem tb1Count_of_ne {c : Byte} (hc : s.raw s.cfg.io.tb1Cnt = c) (h : c ≠ 0xFF) :
    s.tb1Count = s.rawSet s.cfg.io.tb1Cnt (c + 1) := by
  subst hc
  exact if_neg h

theorem State.tb1At.count {k p : Nat} (h : s.tb1At u k p) (below : (s.raw s.cfg.io.tb1Cnt).toNat + k < 255) :
    s.tb1At { u with tb1Pre := 0 }.tb1Count (k + 1) 0 := by
  have cfg := h.cfg
  obtain ⟨count, others, frame⟩ := h
  have counts : { u with tb1Pre := 0 }.tb1Count
      = { u with tb1Pre := 0 }.rawSet s.cfg.io.tb1Cnt (u.raw s.cfg.io.tb1Cnt + 1) := by
    rw [← cfg]
    refine tb1Count_of_ne rfl fun top => ?_
    have value : (u.raw u.cfg.io.tb1Cnt).toNat = 255 := congrArg BitVec.toNat top
    rw [cfg, count] at value
    omega
  rw [counts]
  refine ⟨?_, fun x hx => ?_, ?_⟩
  · rw [State.raw_rawSet, if_pos rfl, BitVec.toNat_add, count]
    show (_ + 1) % 256 = _
    omega
  · rw [State.raw_rawSet, if_neg hx]
    exact others x hx
  · rw [frame]
    rfl

/-- Advancements by divisor: a count at every `N`th of them. -/
theorem div_mod_succ {N : Nat} (pos : 0 < N) (m : Nat) :
    (N ≤ m % N + 1 → (m + 1) / N = m / N + 1 ∧ (m + 1) % N = 0)
      ∧ (m % N + 1 < N → (m + 1) / N = m / N ∧ (m + 1) % N = m % N + 1) := by
  have small := Nat.mod_lt m pos
  have parts := Nat.div_add_mod m N
  refine ⟨fun due => ?_, fun wait => ?_⟩
  · have whole : m + 1 = N * (m / N + 1) := by
      rw [Nat.mul_succ]
      omega
    exact ⟨by rw [whole, Nat.mul_div_cancel_left _ pos], by rw [whole, Nat.mul_mod_right]⟩
  · have split : m + 1 = m % N + 1 + N * (m / N) := by omega
    exact ⟨by rw [split, Nat.add_mul_div_left _ _ pos, Nat.div_eq_of_lt wait, Nat.zero_add],
      by rw [split, Nat.add_mul_mod_self_left, Nat.mod_eq_of_lt wait]⟩

/-- `m` advancements before the overflow (rules R1201, R1202). -/
theorem tb1At_times (hv : s.cfg.valid = true) (hr : s.tb1Running = true) (hp : s.tb1Pre = 0)
    (hN : s.cfg.tb1Prescale.getD (s.field s.cfg.io.tb1Cks) none = some N) (m : Nat)
    (hm : m < (256 - (s.raw s.cfg.io.tb1Cnt).toNat) * N) :
    s.tb1At (times State.timerB1Advance m s) (m / N) (m % N) := by
  have pos := tb1Divisor_pos hv hN
  induction m with
  | zero =>
    rw [Nat.zero_div, Nat.zero_mod]
    refine ⟨rfl, fun _ _ => rfl, ?_⟩
    show s = { s with mem := s.mem, tb1Pre := 0 }
    rw [← hp]
  | succ m ih =>
    have before := ih (by omega)
    rw [times_succ']
    generalize times State.timerB1Advance m s = u at before
    obtain ⟨running, code⟩ := before.control hv
    have advanced := timerB1Advance_running (s := u) (N := N) (running.trans hr) (by rw [code, before.cfg, hN])
    rw [before.tb1Pre] at advanced
    have below : (m + 1) / N < 256 - (s.raw s.cfg.io.tb1Cnt).toNat :=
      Nat.div_lt_of_lt_mul (by rwa [Nat.mul_comm] at hm)
    rw [advanced]
    split
    case isTrue due =>
      obtain ⟨quotient, remainder⟩ := (div_mod_succ pos m).1 due
      rw [quotient] at below ⊢
      rw [remainder]
      exact before.count (by omega)
    case isFalse wait =>
      obtain ⟨quotient, remainder⟩ := (div_mod_succ pos m).2 (by omega)
      rw [quotient, remainder]
      obtain ⟨count, others, frame⟩ := before
      exact ⟨count, others, by rw [frame]⟩

/-- The last of a whole number of counts: `k * N` advancements are `k * N - 1` and one more. -/
theorem exists_last {N k : Nat} (pos : 0 < N) (hk : 0 < k) :
    ∃ m, k * N = m + 1 ∧ m / N = k - 1 ∧ m % N = N - 1 := by
  have total : 0 < k * N := Nat.mul_pos hk pos
  have split : k * N - 1 = N - 1 + N * (k - 1) := by
    obtain ⟨k, rfl⟩ := Nat.exists_eq_add_of_lt hk
    simp only [Nat.zero_add, Nat.add_sub_cancel, Nat.add_mul, Nat.one_mul, Nat.mul_comm N]
    omega
  refine ⟨k * N - 1, by omega, ?_, ?_⟩
  · rw [split, Nat.add_mul_div_left _ _ pos, Nat.div_eq_of_lt (by omega), Nat.zero_add]
  · rw [split, Nat.add_mul_mod_self_left, Nat.mod_eq_of_lt (by omega)]

/-- The count that overflows: reload and flag (rule R1202). -/
theorem tb1Count_overflow (hv : s.cfg.valid = true) (h : s.raw s.cfg.io.tb1Cnt = 0xFF) :
    s.tb1Count.raw s.cfg.io.tb1Cnt = s.tb1Load ∧ s.tb1Count.bit s.cfg.io.flagTb1 = true
      ∧ s.keepsBut s.tb1Count [s.cfg.io.tb1Cnt] [s.cfg.io.flagTb1] ∧ s.tb1Count = { s with mem := s.tb1Count.mem } := by
  have counted : s.tb1Count = (s.rawSet s.cfg.io.tb1Cnt s.tb1Load).setBit s.cfg.io.flagTb1 true := if_pos h
  have apart := Config.byte_ne_bit hv 38 10 (by decide) (a := s.cfg.io.tb1Cnt) (f := s.cfg.io.flagTb1) rfl rfl
  rw [counted]
  refine ⟨?_, State.bit_setBit_self .., .trans (State.keepsBut_rawSet _ _ _ (by simp))
    (State.keepsBut_setBit _ _ _ (by simp)), rfl⟩
  rw [State.raw_setBit, if_neg apart, State.raw_rawSet, if_pos rfl]

/-- What is kept after a change of the excepted bytes alone. -/
theorem State.keepsBut.of_raw {s u t : State} {bytes : List Addr} {bits : List BitLoc}
    (h : ∀ x, x ∉ bytes → u.raw x = s.raw x) (ht : u.keepsBut t bytes bits) : s.keepsBut t bytes bits :=
  ⟨fun x hx hf => (ht.1 x hx hf).trans (h x hx), fun f hx hf => (ht.2 f hx hf).trans (State.bit_congr f (h _ hx))⟩

end

/-- Settles O48: `tb1At_times`, then the count that overflows. -/
theorem timerB1Overflows : Obligations.TimerB1Overflows := by
  intro s N hv hr hp hN
  refine ⟨fun m hm => ?_, _, rfl, ?_⟩
  · have counted := tb1At_times hv hr hp hN m hm
    exact ⟨counted.1, counted.tb1Pre, counted.2.1⟩
  · have pos := tb1Divisor_pos hv hN
    have size : (s.raw s.cfg.io.tb1Cnt).toNat < 256 := (s.raw s.cfg.io.tb1Cnt).isLt
    obtain ⟨m, total, quotient, remainder⟩ := exists_last pos (k := 256 - (s.raw s.cfg.io.tb1Cnt).toNat) (by omega)
    have before := tb1At_times hv hr hp hN m (by omega)
    rw [total, times_succ']
    generalize times State.timerB1Advance m s = u at before
    obtain ⟨running, code⟩ := before.control hv
    have advanced := timerB1Advance_running (s := u) (N := N) (running.trans hr) (by rw [code, before.cfg, hN])
    rw [before.tb1Pre, if_pos (by omega)] at advanced
    have cfg := before.cfg
    obtain ⟨count, others, frame⟩ := before
    have top : u.raw u.cfg.io.tb1Cnt = 0xFF := by
      rw [cfg]
      refine BitVec.eq_of_toNat_eq (count.trans ?_)
      show _ = 255
      omega
    have valid : u.cfg.valid = true := by rwa [cfg]
    obtain ⟨reloaded, raised, kept, same⟩ := tb1Count_overflow (s := { u with tb1Pre := 0 }) valid top
    rw [← advanced] at reloaded raised kept same
    have cfg' : ({ u with tb1Pre := 0 } : State).cfg = s.cfg := cfg
    rw [cfg'] at reloaded raised kept
    refine ⟨reloaded.trans (by rw [frame]), raised, .of_raw (fun x hx => others x (by simpa using hx)) kept, ?_⟩
    rw [same, frame]

end Sys2Proof.Machine
end

section
/-! SUPPORT. One count of Timer W, its delivery, and many advancements. From these, the statements on Timer W. -/

namespace Sys2Proof.Machine
set_option Elab.async false

/-! ### Halves and conditional flags in memory -/

section
variable (s : State)

theorem addr_ne_succ (a : Addr) : a ≠ a + 1 := by bv_omega

theorem State.raw_rawSet16_of_ne {a x : Addr} (v : Half) (h : x ≠ a) (h' : x ≠ a + 1) :
    (s.rawSet16 a v).raw x = s.raw x := by
  rw [State.rawSet16, State.raw_rawSet, if_neg h', State.raw_rawSet, if_neg h]

theorem State.raw16_rawSet16_self (a : Addr) (v : Half) : (s.rawSet16 a v).raw16 a = v := by
  rw [State.raw16, State.rawSet16, State.raw_rawSet, if_neg (addr_ne_succ a), State.raw_rawSet, if_pos rfl,
    State.raw_rawSet, if_pos rfl, half_join]

theorem State.keepsBut_rawSet16 {a : Addr} (v : Half) {bytes : List Addr} (bits : List BitLoc) (ha : a ∈ bytes)
    (ha' : a + 1 ∈ bytes) : s.keepsBut (s.rawSet16 a v) bytes bits :=
  .trans (State.keepsBut_rawSet s _ bits ha) (State.keepsBut_rawSet _ _ bits ha')

theorem State.bit_setBitIf_self (p : Bool) (f : BitLoc) : (s.setBitIf p f).bit f = (p || s.bit f) := by
  cases p with
  | true => exact State.bit_setBit_self s f true
  | false => rfl

theorem State.bit_setBitIf_of_disjoint (p : Bool) {f g : BitLoc} (h : f.piece.disjoint g.piece = true) :
    (s.setBitIf p f).bit g = s.bit g := by
  cases p with
  | true => exact State.bit_setBit_of_disjoint s true h
  | false => rfl

theorem State.raw_setBitIf_of_ne (p : Bool) {f : BitLoc} {x : Addr} (h : x ≠ f.addr) :
    (s.setBitIf p f).raw x = s.raw x := by
  cases p with
  | true => exact (State.raw_setBit ..).trans (if_neg h)
  | false => rfl

theorem State.raw16_congr {s t : State} {a : Addr} (h : t.raw a = s.raw a) (h' : t.raw (a + 1) = s.raw (a + 1)) :
    t.raw16 a = s.raw16 a := by
  rw [State.raw16, h, h', State.raw16]

theorem State.bit_of_mem {s t : State} (h : t.mem = s.mem) (f : BitLoc) : t.bit f = s.bit f :=
  State.bit_congr f (congrArg (Memory.byte · f.addr) h)

theorem State.raw16_of_mem {s t : State} (h : t.mem = s.mem) (a : Addr) : t.raw16 a = s.raw16 a :=
  State.raw16_congr (congrArg (Memory.byte · a) h) (congrArg (Memory.byte · (a + 1)) h)

theorem State.keepsBut_setBitIf (p : Bool) {f : BitLoc} (bytes : List Addr) {bits : List BitLoc}
    (hf : p = true → f ∈ bits) : s.keepsBut (s.setBitIf p f) bytes bits := by
  cases p with
  | true => exact State.keepsBut_setBit s true bytes (hf rfl)
  | false => exact .refl s bytes bits

end

/-- Nothing but the memory has changed. -/
def State.keepsAllButMem (s t : State) : Prop := t = { s with mem := t.mem }

section
variable {s m t : State}

theorem State.keepsAllButMem.refl (s : State) : s.keepsAllButMem s := rfl

theorem State.keepsAllButMem.trans (h₁ : s.keepsAllButMem m) (h₂ : m.keepsAllButMem t) : s.keepsAllButMem t := by
  unfold State.keepsAllButMem at h₁ h₂ ⊢
  rw [h₁] at h₂
  exact h₂

theorem State.keepsAllButMem.rawSet (s : State) (a : Addr) (b : Byte) : s.keepsAllButMem (s.rawSet a b) := rfl

theorem State.keepsAllButMem.rawSet16 (s : State) (a : Addr) (v : Half) : s.keepsAllButMem (s.rawSet16 a v) := rfl

theorem State.keepsAllButMem.setBit (s : State) (f : BitLoc) (v : Bool) : s.keepsAllButMem (s.setBit f v) := rfl

theorem State.keepsAllButMem.setBitIf (s : State) (p : Bool) (f : BitLoc) : s.keepsAllButMem (s.setBitIf p f) := by
  cases p with
  | true => exact .setBit s f true
  | false => exact .refl s

end

/-- Fields that share no bit are two fields. -/
theorem bit_ne_of_piece_disjoint {f g : BitLoc} (h : f.piece.disjoint g.piece = true) : f ≠ g := by
  rintro rfl
  exact bit_ne_of_disjoint h rfl rfl

/-! ### One count (`60_exceptions.md` rule R1205) -/

section
variable {s : State}

/-- The state after a count: the counter, the two flags, and the clearing. -/
def State.twCounted (s : State) (hit wrap : Bool) : State :=
  let s₁ := ((s.rawSet16 s.cfg.io.twTcnt (s.raw16 s.cfg.io.twTcnt + 1)).setBitIf wrap s.cfg.io.twOvf).setBitIf hit
    s.cfg.io.twImfa
  if hit && s.bit s.cfg.io.twCclr then s₁.rawSet16 s.cfg.io.twTcnt 0 else s₁

variable (hv : s.cfg.valid = true)
include hv

theorem twTcnt_ne_bit (i : Nat) (hi : i < 48) {f : BitLoc} (hf : s.cfg.io.otherPieces[i]? = some f.piece) :
    f.addr ≠ s.cfg.io.twTcnt ∧ f.addr ≠ s.cfg.io.twTcnt + 1 :=
  ⟨Ne.symm (Config.byte_ne_bit hv 48 i (by omega) rfl hf), Ne.symm (Config.byte_ne_bit hv 49 i (by omega) rfl hf)⟩

theorem twGra_ne_bit (i : Nat) (hi : i < 48) {f : BitLoc} (hf : s.cfg.io.otherPieces[i]? = some f.piece) :
    s.cfg.io.twGra ≠ f.addr ∧ s.cfg.io.twGra + 1 ≠ f.addr :=
  ⟨Config.byte_ne_bit hv 50 i (by omega) rfl hf, Config.byte_ne_bit hv 51 i (by omega) rfl hf⟩

theorem raw16_twGra_rawSet16 (v : Half) :
    (s.rawSet16 s.cfg.io.twTcnt v).raw16 s.cfg.io.twGra = s.raw16 s.cfg.io.twGra :=
  State.raw16_congr
    (State.raw_rawSet16_of_ne s v (Config.byte_ne_byte hv 50 48 (by decide) rfl rfl)
      (Config.byte_ne_byte hv 50 49 (by decide) rfl rfl))
    (State.raw_rawSet16_of_ne s v (Config.byte_ne_byte hv 51 48 (by decide) rfl rfl)
      (Config.byte_ne_byte hv 51 49 (by decide) rfl rfl))

theorem bit_rawSet16_twTcnt (i : Nat) (hi : i < 48) {f : BitLoc} (hf : s.cfg.io.otherPieces[i]? = some f.piece)
    {u : State} (v : Half) : (u.rawSet16 s.cfg.io.twTcnt v).bit f = u.bit f := by
  obtain ⟨hne, hne'⟩ := twTcnt_ne_bit hv i hi hf
  exact State.bit_congr f (State.raw_rawSet16_of_ne u v hne hne')

theorem twCount_eq {hit wrap : Bool} (hhit : hit = true ↔ s.raw16 s.cfg.io.twTcnt + 1 = s.raw16 s.cfg.io.twGra)
    (hwrap : wrap = true ↔ s.raw16 s.cfg.io.twTcnt + 1 = 0) : s.twCount = (s.twCounted hit wrap, hit, wrap) := by
  have gra : ((s.rawSet16 s.cfg.io.twTcnt (s.raw16 s.cfg.io.twTcnt + 1)).setBitIf wrap s.cfg.io.twOvf).raw16
      s.cfg.io.twGra = s.raw16 s.cfg.io.twGra := by
    obtain ⟨hne, hne'⟩ := twGra_ne_bit hv 19 (by decide) (f := s.cfg.io.twOvf) rfl
    exact (State.raw16_congr (State.raw_setBitIf_of_ne _ _ hne) (State.raw_setBitIf_of_ne _ _ hne')).trans
      (raw16_twGra_rawSet16 hv _)
  have cclr : (((s.rawSet16 s.cfg.io.twTcnt (s.raw16 s.cfg.io.twTcnt + 1)).setBitIf wrap s.cfg.io.twOvf).setBitIf hit
      s.cfg.io.twImfa).bit s.cfg.io.twCclr = s.bit s.cfg.io.twCclr := by
    rw [State.bit_setBitIf_of_disjoint _ _ (Config.bits_disjoint hv 18 15 (by decide) rfl rfl),
      State.bit_setBitIf_of_disjoint _ _ (Config.bits_disjoint hv 19 15 (by decide) rfl rfl),
      bit_rawSet16_twTcnt hv 15 (by decide) rfl]
  have ovf : decide (s.raw16 s.cfg.io.twTcnt + 1 = 0) = wrap := by rw [Bool.eq_iff_iff, hwrap, decide_eq_true_iff]
  have raised : ∀ (p : Bool) (u : State) (f : BitLoc), (if p then u.setBit f true else u) = u.setBitIf p f :=
    fun _ _ _ => rfl
  have match' : decide (s.raw16 s.cfg.io.twTcnt + 1 = s.raw16 s.cfg.io.twGra) = hit := by
    rw [Bool.eq_iff_iff, hhit, decide_eq_true_iff]
  unfold State.twCount
  simp only [ovf, raised, gra, match', cclr]
  rfl

/-- What a count leaves: the flags, the counter, the control bits (rule R1205). -/
theorem twCounted_facts (hit wrap : Bool) :
    (s.twCounted hit wrap).bit s.cfg.io.twImfa = (hit || s.bit s.cfg.io.twImfa)
      ∧ (s.twCounted hit wrap).bit s.cfg.io.twOvf = (wrap || s.bit s.cfg.io.twOvf)
      ∧ (s.twCounted hit wrap).raw16 s.cfg.io.twTcnt
        = (if hit && s.bit s.cfg.io.twCclr then 0 else s.raw16 s.cfg.io.twTcnt + 1) := by
  have apart := Config.bits_disjoint hv 18 19 (by decide) (f := s.cfg.io.twImfa) (g := s.cfg.io.twOvf) rfl rfl
  obtain ⟨himfa, himfa'⟩ := twTcnt_ne_bit hv 18 (by decide) (f := s.cfg.io.twImfa) rfl
  obtain ⟨hovf, hovf'⟩ := twTcnt_ne_bit hv 19 (by decide) (f := s.cfg.io.twOvf) rfl
  unfold State.twCounted
  dsimp only
  generalize hs₁ : ((s.rawSet16 s.cfg.io.twTcnt (s.raw16 s.cfg.io.twTcnt + 1)).setBitIf wrap
    s.cfg.io.twOvf).setBitIf hit s.cfg.io.twImfa = s₁
  have imfa : s₁.bit s.cfg.io.twImfa = (hit || s.bit s.cfg.io.twImfa) := by
    rw [← hs₁, State.bit_setBitIf_self, State.bit_setBitIf_of_disjoint _ _ ((Piece.disjoint_comm _ _).trans apart),
      bit_rawSet16_twTcnt hv 18 (by decide) rfl]
  have ovf : s₁.bit s.cfg.io.twOvf = (wrap || s.bit s.cfg.io.twOvf) := by
    rw [← hs₁, State.bit_setBitIf_of_disjoint _ _ apart, State.bit_setBitIf_self,
      bit_rawSet16_twTcnt hv 19 (by decide) rfl]
  have tcnt : s₁.raw16 s.cfg.io.twTcnt = s.raw16 s.cfg.io.twTcnt + 1 := by
    rw [← hs₁, State.raw16_congr (State.raw_setBitIf_of_ne _ _ (Ne.symm himfa))
      (State.raw_setBitIf_of_ne _ _ (Ne.symm himfa')), State.raw16_congr (State.raw_setBitIf_of_ne _ _ (Ne.symm hovf))
      (State.raw_setBitIf_of_ne _ _ (Ne.symm hovf')), State.raw16_rawSet16_self]
  clear hs₁
  split
  · exact ⟨(bit_rawSet16_twTcnt hv 18 (by decide) (f := s.cfg.io.twImfa) rfl _).trans imfa,
      (bit_rawSet16_twTcnt hv 19 (by decide) (f := s.cfg.io.twOvf) rfl _).trans ovf, State.raw16_rawSet16_self ..⟩
  · exact ⟨imfa, ovf, tcnt⟩

omit hv in
theorem twCounted_keeps {hit wrap : Bool} {bits : List BitLoc} (himfa : hit = true → s.cfg.io.twImfa ∈ bits)
    (hovf : wrap = true → s.cfg.io.twOvf ∈ bits) :
    s.keepsBut (s.twCounted hit wrap) [s.cfg.io.twTcnt, s.cfg.io.twTcnt + 1] bits := by
  have flags : s.keepsBut (((s.rawSet16 s.cfg.io.twTcnt (s.raw16 s.cfg.io.twTcnt + 1)).setBitIf wrap
      s.cfg.io.twOvf).setBitIf hit s.cfg.io.twImfa) [s.cfg.io.twTcnt, s.cfg.io.twTcnt + 1] bits :=
    .trans (.trans (State.keepsBut_rawSet16 _ _ _ (by simp) (by simp)) (State.keepsBut_setBitIf _ _ _ hovf))
      (State.keepsBut_setBitIf _ _ _ himfa)
  unfold State.twCounted
  dsimp only
  split
  · exact flags.trans (State.keepsBut_rawSet16 _ _ _ (by simp) (by simp))
  · exact flags

omit hv in
theorem twCounted_frame (hit wrap : Bool) : s.twCounted hit wrap = { s with mem := (s.twCounted hit wrap).mem } := by
  have first : s.keepsAllButMem (((s.rawSet16 s.cfg.io.twTcnt (s.raw16 s.cfg.io.twTcnt + 1)).setBitIf wrap
      s.cfg.io.twOvf).setBitIf hit s.cfg.io.twImfa) :=
    .trans (.trans (.rawSet16 ..) (.setBitIf ..)) (.setBitIf ..)
  unfold State.twCounted
  dsimp only
  split
  · exact first.trans (.rawSet16 ..)
  · exact first

end

section
variable {s : State}

/-- A count keeps every other field of the layout. -/
theorem twCounted_bit (hv : s.cfg.valid = true) (hit wrap : Bool) (i : Nat) (hi : i < 48) (h18 : i ≠ 18) (h19 : i ≠ 19)
    {f : BitLoc} (hf : s.cfg.io.otherPieces[i]? = some f.piece) : (s.twCounted hit wrap).bit f = s.bit f := by
  have kept := twCounted_keeps (s := s) (hit := hit) (wrap := wrap) (bits := [s.cfg.io.twImfa, s.cfg.io.twOvf])
    (fun _ => by simp) (fun _ => by simp)
  obtain ⟨hne, hne'⟩ := twTcnt_ne_bit hv i hi hf
  have imfa := bit_ne_of_piece_disjoint (Config.bits_disjoint hv i 18 h18 hf rfl)
  have ovf := bit_ne_of_piece_disjoint (Config.bits_disjoint hv i 19 h19 hf rfl)
  exact kept.2 f (by simp only [List.mem_cons, List.not_mem_nil, hne, hne', or_self, not_false_eq_true])
    (by simp only [List.mem_cons, List.not_mem_nil, imfa, ovf, or_self, not_false_eq_true])

end

/-! ### The delivery (`60_exceptions.md` rule R1204) -/

theorem twDeliver_mem (s : State) (m o : Bool) : (s.twDeliver m o).mem = s.mem := by
  obtain h | ⟨-, h⟩ := s.twDeliver_cases m o
  · rw [h]
  · rw [h]
    rfl

theorem twDeliver_eq (s : State) (m o : Bool) :
    s.twDeliver m o = if !s.ccr.i && ((if s.cfg.twIrqLevel then s.bit s.cfg.io.twImfa else m) && s.bit s.cfg.io.twImiea
        || (if s.cfg.twIrqLevel then s.bit s.cfg.io.twOvf else o) && s.bit s.cfg.io.twOvie) then
      { s with savedPC := s.pc, savedCCR := s.ccr.pack, pc := s.raw16 s.cfg.vecTw, ccr := { s.ccr with i := true },
               sleep := false }
    else s := rfl

/-- Without an event of its own an advancement delivers by level only. -/
theorem twDeliver_quiet (s : State) :
    s.twDeliver false false = if s.cfg.twIrqLevel && !s.ccr.i
        && (s.bit s.cfg.io.twImfa && s.bit s.cfg.io.twImiea || s.bit s.cfg.io.twOvf && s.bit s.cfg.io.twOvie) then
      { s with savedPC := s.pc, savedCCR := s.ccr.pack, pc := s.raw16 s.cfg.vecTw, ccr := { s.ccr with i := true },
               sleep := false }
    else s := by
  rw [twDeliver_eq]
  cases s.cfg.twIrqLevel with
  | true => simp
  | false => simp

section
variable {s : State} {M : Nat}

theorem timerWAdvance_eq_counted (hv : s.cfg.valid = true) (hr : s.twRunning = true) (due : M ≤ s.twPre + 1)
    (hM : s.cfg.twPrescale.getD (s.field s.cfg.io.twCks) none = some M) {hit wrap : Bool}
    (hhit : hit = true ↔ s.raw16 s.cfg.io.twTcnt + 1 = s.raw16 s.cfg.io.twGra)
    (hwrap : wrap = true ↔ (s.raw16 s.cfg.io.twTcnt).toNat = 65535) :
    s.timerWAdvance = ({ s with twPre := 0 }.twCounted hit wrap).twDeliver hit wrap := by
  have top : (s.raw16 s.cfg.io.twTcnt).toNat = 65535 ↔ s.raw16 s.cfg.io.twTcnt + 1 = 0 := by
    constructor
    · intro h
      bv_omega
    · intro h
      bv_omega
  have counted := twCount_eq (s := { s with twPre := 0 }) hv (hit := hit) (wrap := wrap) hhit (hwrap.trans top)
  rw [timerWAdvance_counts hr hM due, counted]

end

/-- Settles O50: a count, then the delivery; or the delivery alone. -/
theorem timerWCountsAndDelivers : Obligations.TimerWCountsAndDelivers := by
  refine ⟨fun s t M hv hr due hM ht hit wrap hhit hwrap => ?_, fun s t pre ht quiet => ?_⟩
  · rw [timerWAdvance_eq_counted hv hr due hM hhit hwrap] at ht
    have mem : t.mem = ({ s with twPre := 0 }.twCounted hit wrap).mem := by rw [ht, twDeliver_mem]
    obtain ⟨imfa, ovf, tcnt⟩ := twCounted_facts (s := { s with twPre := 0 }) hv hit wrap
    have kept := twCounted_keeps (s := { s with twPre := 0 }) (hit := hit) (wrap := wrap)
      (bits := [s.cfg.io.twImfa, s.cfg.io.twOvf]) (fun _ => by simp) (fun _ => by simp)
    have frame := twCounted_frame (s := { s with twPre := 0 }) hit wrap
    have imiea : ({ s with twPre := 0 }.twCounted hit wrap).bit s.cfg.io.twImiea = s.bit s.cfg.io.twImiea :=
      twCounted_bit (s := { s with twPre := 0 }) hv hit wrap 16 (by decide) (by decide) (by decide)
      (f := s.cfg.io.twImiea) rfl
    have ovie : ({ s with twPre := 0 }.twCounted hit wrap).bit s.cfg.io.twOvie = s.bit s.cfg.io.twOvie :=
      twCounted_bit (s := { s with twPre := 0 }) hv hit wrap 17 (by decide) (by decide) (by decide)
      (f := s.cfg.io.twOvie) rfl
    generalize { s with twPre := 0 }.twCounted hit wrap = u at ht mem imfa ovf tcnt kept frame imiea ovie
    have cfg : u.cfg = s.cfg := by rw [frame]
    refine ⟨(State.bit_of_mem mem _).trans imfa, (State.bit_of_mem mem _).trans ovf,
      (State.raw16_of_mem mem _).trans tcnt, kept.congr mem, ?_⟩
    rw [State.bit_of_mem mem, State.bit_of_mem mem, mem, ht, twDeliver_eq, cfg, imiea, ovie]
    generalize u.mem = memory at frame
    subst frame
    rfl
  · obtain ⟨stopped, rfl⟩ | ⟨hr, rfl, M, hM, wait⟩ := quiet
    · rw [ht, timerWAdvance_stopped stopped, twDeliver_quiet]
    · rw [ht, timerWAdvance_waits hr hM wait, twDeliver_quiet]
      rfl

/-! ### Timer W over many advancements, while I is set -/

section
variable {s u : State} {M : Nat}

/-- Timer W has counted `k` times and its prescale counter stands at `p`; nothing else has changed. -/
def State.twAt (s u : State) (k p : Nat) : Prop :=
  (u.raw16 s.cfg.io.twTcnt).toNat = (s.raw16 s.cfg.io.twTcnt).toNat + k
    ∧ (∀ x, x ≠ s.cfg.io.twTcnt → x ≠ s.cfg.io.twTcnt + 1 → u.raw x = s.raw x)
    ∧ u = { s with mem := u.mem, twPre := p }

theorem State.twAt.frame {k p : Nat} (h : s.twAt u k p) : u = { s with mem := u.mem, twPre := p } := h.2.2

theorem State.twAt.bit {k p : Nat} (h : s.twAt u k p) (hv : s.cfg.valid = true) (i : Nat) (hi : i < 48) {f : BitLoc}
    (hf : s.cfg.io.otherPieces[i]? = some f.piece) : u.bit f = s.bit f := by
  obtain ⟨hne, hne'⟩ := twTcnt_ne_bit hv i hi hf
  exact State.bit_congr f (h.2.1 _ hne hne')

theorem State.twAt.gra {k p : Nat} (h : s.twAt u k p) (hv : s.cfg.valid = true) :
    u.raw16 s.cfg.io.twGra = s.raw16 s.cfg.io.twGra :=
  State.raw16_congr
    (h.2.1 _ (Config.byte_ne_byte hv 50 48 (by decide) rfl rfl) (Config.byte_ne_byte hv 50 49 (by decide) rfl rfl))
    (h.2.1 _ (Config.byte_ne_byte hv 51 48 (by decide) rfl rfl) (Config.byte_ne_byte hv 51 49 (by decide) rfl rfl))

/-- While only the counter changes, the timer runs on with its divisor. -/
theorem State.twAt.control {k p : Nat} (h : s.twAt u k p) (hv : s.cfg.valid = true) :
    u.twRunning = s.twRunning ∧ u.field s.cfg.io.twCks = s.field s.cfg.io.twCks := by
  have cfg : u.cfg = s.cfg := by rw [h.frame]
  have stby := h.bit hv 14 (by decide) (f := s.cfg.io.twStby) rfl
  have cts := h.bit hv 13 (by decide) (f := s.cfg.io.twCts) rfl
  have ordered := (Config.timer_fields hv).2
  refine ⟨?_, State.field_congr _ (h.2.1 _ (Config.byte_ne_field hv 35 48 (by decide) ordered rfl rfl)
    (Config.byte_ne_field hv 35 49 (by decide) ordered rfl rfl))⟩
  rw [State.twRunning, cfg, stby, cts, State.twRunning]

/-- A count below the match changes the counter only. -/
theorem State.twAt.count {k p : Nat} (h : s.twAt u k p) (small : (s.raw16 s.cfg.io.twTcnt).toNat + k + 1 < 65536) :
    s.twAt ({ u with twPre := 0 }.twCounted false false) (k + 1) 0 := by
  obtain ⟨count, others, frame⟩ := h
  have cfg : u.cfg = s.cfg := by rw [frame]
  have counted : { u with twPre := 0 }.twCounted false false
      = { u with twPre := 0 }.rawSet16 s.cfg.io.twTcnt (u.raw16 s.cfg.io.twTcnt + 1) := by
    rw [← cfg]
    rfl
  rw [counted]
  refine ⟨?_, fun x hx hx' => ?_, ?_⟩
  · rw [State.raw16_rawSet16_self, BitVec.toNat_add, count]
    exact Nat.mod_eq_of_lt small
  · rw [State.raw_rawSet16_of_ne _ _ hx hx']
    exact others x hx hx'
  · rw [frame]
    rfl

/-- A running Timer W with a count due, while I is set: the count alone. -/
theorem State.twAt.advance {k p : Nat} (h : s.twAt u k p) (hv : s.cfg.valid = true) (hr : s.twRunning = true)
    (masked : s.ccr.i = true) (hM : s.cfg.twPrescale.getD (s.field s.cfg.io.twCks) none = some M) (due : M ≤ p + 1)
    (below : (s.raw16 s.cfg.io.twTcnt).toNat + k < (s.raw16 s.cfg.io.twGra).toNat) {hit : Bool}
    (hhit : hit = true ↔ (s.raw16 s.cfg.io.twTcnt).toNat + k + 1 = (s.raw16 s.cfg.io.twGra).toNat) :
    u.timerWAdvance = { u with twPre := 0 }.twCounted hit false := by
  obtain ⟨running, code⟩ := h.control hv
  have gra := h.gra hv
  obtain ⟨count, -, frame⟩ := h
  have cfg : u.cfg = s.cfg := by rw [frame]
  have pre : u.twPre = p := by rw [frame]
  have small : (s.raw16 s.cfg.io.twGra).toNat < 65536 := (s.raw16 s.cfg.io.twGra).isLt
  have next : (u.raw16 s.cfg.io.twTcnt + 1).toNat = (s.raw16 s.cfg.io.twTcnt).toNat + k + 1 := by
    rw [BitVec.toNat_add, count]
    exact Nat.mod_eq_of_lt (by show _ + 1 < 65536; omega)
  rw [timerWAdvance_eq_counted (M := M) (hit := hit) (wrap := false) (by rwa [cfg]) (running.trans hr) (by rwa [pre])
    (by rwa [cfg, code]) ?_ ?_]
  · refine twDeliver_masked ?_ _ _
    rw [twCounted_frame]
    show u.ccr.i = true
    rw [frame]
    exact masked
  · rw [hhit, cfg, gra, ← next]
    exact BitVec.toNat_inj
  · rw [cfg, count]
    constructor
    · exact nofun
    · omega

end

/-- `m` advancements before the match (rules R1201, R1205). -/
theorem twAt_times {s : State} {M : Nat} (hv : s.cfg.valid = true) (hr : s.twRunning = true) (hp : s.twPre = 0)
    (masked : s.ccr.i = true) (hM : s.cfg.twPrescale.getD (s.field s.cfg.io.twCks) none = some M) (m : Nat)
    (hm : m < ((s.raw16 s.cfg.io.twGra).toNat - (s.raw16 s.cfg.io.twTcnt).toNat) * M) :
    s.twAt (times State.timerWAdvance m s) (m / M) (m % M) := by
  have pos := twDivisor_pos hv hM
  induction m with
  | zero =>
    rw [Nat.zero_div, Nat.zero_mod]
    refine ⟨rfl, fun _ _ _ => rfl, ?_⟩
    show s = { s with mem := s.mem, twPre := 0 }
    rw [← hp]
  | succ m ih =>
    have before := ih (by omega)
    rw [times_succ']
    generalize times State.timerWAdvance m s = u at before
    have below : (m + 1) / M < (s.raw16 s.cfg.io.twGra).toNat - (s.raw16 s.cfg.io.twTcnt).toNat :=
      Nat.div_lt_of_lt_mul (by rwa [Nat.mul_comm] at hm)
    by_cases due : M ≤ m % M + 1
    · obtain ⟨quotient, remainder⟩ := (div_mod_succ pos m).1 due
      rw [quotient] at below ⊢
      have room : (s.raw16 s.cfg.io.twTcnt).toNat + m / M + 1 < (s.raw16 s.cfg.io.twGra).toNat :=
        (Nat.add_assoc ..).trans_lt (Nat.add_lt_of_lt_sub' below)
      rw [remainder, before.advance hv hr masked hM due (Nat.lt_of_succ_lt room) (hit := false)
        (iff_of_false Bool.false_ne_true (Nat.ne_of_lt room))]
      exact before.count (Nat.lt_trans room (s.raw16 s.cfg.io.twGra).isLt)
    · obtain ⟨quotient, remainder⟩ := (div_mod_succ pos m).2 (by omega)
      obtain ⟨running, code⟩ := before.control hv
      obtain ⟨count, others, frame⟩ := before
      have cfg : u.cfg = s.cfg := by rw [frame]
      have pre : u.twPre = m % M := by rw [frame]
      have still : u.ccr.i = true := by rwa [frame]
      rw [quotient, remainder, timerWAdvance_waits (running.trans hr) (by rwa [cfg, code]) (by omega),
        twDeliver_masked (s := { u with twPre := u.twPre + 1 }) still]
      exact ⟨count, others, by rw [pre, frame]⟩

/-- Settles O49: `twAt_times`, then the count that matches. -/
theorem timerWMatches : Obligations.TimerWMatches := by
  intro s M hv hr hp masked hM room
  refine ⟨fun m hm => ?_, _, rfl, ?_⟩
  · have counted := twAt_times hv hr hp masked hM m hm
    exact ⟨counted.1, counted.2.1⟩
  · have pos := twDivisor_pos hv hM
    obtain ⟨m, total, quotient, remainder⟩ := exists_last pos
      (k := (s.raw16 s.cfg.io.twGra).toNat - (s.raw16 s.cfg.io.twTcnt).toNat) (by omega)
    have before := twAt_times hv hr hp masked hM m (by omega)
    rw [total, times_succ']
    rw [quotient, remainder] at before
    generalize times State.timerWAdvance m s = u at before
    rw [before.advance hv hr masked hM (by omega) (by omega) (hit := true) (iff_of_true rfl (by omega))]
    have cclr := before.bit hv 15 (by decide) (f := s.cfg.io.twCclr) rfl
    have ovf := before.bit hv 19 (by decide) (f := s.cfg.io.twOvf) rfl
    obtain ⟨count, others, frame⟩ := before
    obtain ⟨due, hdue⟩ : ∃ due : State, due = { u with twPre := 0 } := ⟨_, rfl⟩
    have cfg : due.cfg = s.cfg := by rw [hdue, frame]
    have raws : ∀ x, due.raw x = u.raw x := fun x => by rw [hdue]; rfl
    have next : due.raw16 s.cfg.io.twTcnt + 1 = s.raw16 s.cfg.io.twGra := by
      refine BitVec.eq_of_toNat_eq ?_
      rw [BitVec.toNat_add, State.raw16_congr (raws _) (raws _), count]
      show (_ + 1) % 65536 = _
      omega
    obtain ⟨raised, kept, counter⟩ := twCounted_facts (s := due) (by rwa [cfg]) true false
    have others' := twCounted_keeps (s := due) (hit := true) (wrap := false) (bits := [s.cfg.io.twImfa])
      (fun _ => by rw [cfg]; exact List.mem_singleton_self _) nofun
    have frame' := twCounted_frame (s := due) true false
    rw [← hdue]
    rw [cfg] at raised kept counter others'
    rw [State.bit_congr _ (raws _), cclr, next] at counter
    refine ⟨raised, kept.trans ((State.bit_congr _ (raws _)).trans ovf), counter, .of_raw (fun x hx => ?_) others', ?_⟩
    · rw [List.mem_cons, List.mem_singleton, not_or] at hx
      exact (raws x).trans (others x hx.1 hx.2)
    · rw [frame', hdue, frame]

end Sys2Proof.Machine
end

section
/-! SUPPORT. Flags raised by conditions; a byte put where a unit waits for it. From these, the statements on the
real-time clock and on SCI3. -/

namespace Sys2Proof.Machine
set_option Elab.async false

/-! ### Several flags raised, each by its own condition -/

section
variable {s : State} {fs : List (Bool × BitLoc)}

def State.raiseIf (s : State) (fs : List (Bool × BitLoc)) : State := fs.foldl (fun u q => u.setBitIf q.1 q.2) s

theorem State.raiseIf_cons (s : State) (q : Bool × BitLoc) (fs : List (Bool × BitLoc)) :
    s.raiseIf (q :: fs) = (s.setBitIf q.1 q.2).raiseIf fs := rfl

theorem State.keepsAllButMem.raiseIf (s : State) (fs : List (Bool × BitLoc)) : s.keepsAllButMem (s.raiseIf fs) := by
  induction fs generalizing s with
  | nil => exact .refl s
  | cons q fs ih => exact .trans (.setBitIf s q.1 q.2) (ih _)

theorem State.raw_raiseIf {x : Addr} (h : ∀ q ∈ fs, x ≠ q.2.addr) : (s.raiseIf fs).raw x = s.raw x := by
  induction fs generalizing s with
  | nil => rfl
  | cons q fs ih =>
    rw [List.forall_mem_cons] at h
    exact (ih h.2).trans (State.raw_setBitIf_of_ne _ _ h.1)

theorem State.bit_raiseIf_of_disjoint {f : BitLoc} (h : ∀ q ∈ fs, q.2.piece.disjoint f.piece = true) :
    (s.raiseIf fs).bit f = s.bit f := by
  induction fs generalizing s with
  | nil => rfl
  | cons q fs ih =>
    rw [List.forall_mem_cons] at h
    exact (ih h.2).trans (State.bit_setBitIf_of_disjoint _ _ h.1)

/-- Of flags that share no bit, each is raised by its own condition. -/
theorem State.bit_raiseIf (apart : fs.Pairwise fun q q' => q.2.piece.disjoint q'.2.piece = true) {q : Bool × BitLoc}
    (hq : q ∈ fs) : (s.raiseIf fs).bit q.2 = (q.1 || s.bit q.2) := by
  induction fs generalizing s with
  | nil => exact absurd hq List.not_mem_nil
  | cons q' fs ih =>
    obtain ⟨first, apart⟩ := List.pairwise_cons.1 apart
    rcases List.mem_cons.1 hq with rfl | hq
    · have others : ∀ q' ∈ fs, q'.2.piece.disjoint q.2.piece = true := fun q' hq' =>
        (Piece.disjoint_comm _ _).trans (first q' hq')
      exact (State.bit_raiseIf_of_disjoint others).trans (State.bit_setBitIf_self ..)
    · rw [State.raiseIf_cons, ih apart hq, State.bit_setBitIf_of_disjoint _ _ (first q hq)]

theorem State.keepsBut_raiseIf (s : State) (bytes : List Addr) {bits : List BitLoc} (h : ∀ q ∈ fs, q.2 ∈ bits) :
    s.keepsBut (s.raiseIf fs) bytes bits := by
  induction fs generalizing s with
  | nil => exact .refl s bytes bits
  | cons q fs ih =>
    rw [List.forall_mem_cons] at h
    exact (State.keepsBut_setBitIf s q.1 bytes fun _ => h.1).trans (ih _ h.2)

end

theorem Config.pieces_pairwise {c : Config} (hv : c.valid = true) :
    c.io.otherPieces.Pairwise fun p q => p.disjoint q = true :=
  List.pairwise_iff_getElem.2 fun _ _ hi hj hij =>
    IoMap.disjoint_of_valid (Config.io_valid hv) hij (List.getElem?_eq_getElem hi) (List.getElem?_eq_getElem hj)

/-! ### The real-time clock (`60_exceptions.md` rules R1220-R1222) -/

theorem bcd_toNat {v : Nat} (h : v < 100) : (bcd v).toNat = v / 10 * 16 + v % 10 := by
  rw [bcd, BitVec.toNat_ofNat]
  omega

section
variable {s : State} {w : WallClock}

/-- The flags of a tick with their conditions (rule R1222). -/
def State.rtcFlags (s : State) (w : WallClock) : List (Bool × BitLoc) :=
  [(true, s.cfg.io.flagRtcQuarter), (decide ((s.rtcQuarter + 1) % 2 = 0), s.cfg.io.flagRtcHalf),
   (decide (w.sec ≠ s.rtcPrev.sec), s.cfg.io.flagRtcSecond), (decide (w.min ≠ s.rtcPrev.min), s.cfg.io.flagRtcMinute),
   (decide (w.hour ≠ s.rtcPrev.hour), s.cfg.io.flagRtcHour)]

theorem rtcFlags_apart (hv : s.cfg.valid = true) :
    (s.rtcFlags w).Pairwise fun q q' => q.2.piece.disjoint q'.2.piece = true := by
  have places : ((s.rtcFlags w).map fun q => q.2.piece).Sublist s.cfg.io.otherPieces :=
    ((s.cfg.io.otherPieces.drop 5).take_sublist 5).trans (s.cfg.io.otherPieces.drop_sublist 5)
  exact List.pairwise_map.1 ((Config.pieces_pairwise hv).sublist places)

/-- A clock field is no flag's byte. -/
theorem rtcFlags_byte_ne (hv : s.cfg.valid = true) (i : Nat) (hi : 10 ≤ i) {a : Addr}
    (ha : s.cfg.io.otherPieces[i]? = some (a, 0xFF#8)) : ∀ q ∈ s.rtcFlags w, a ≠ q.2.addr := by
  have place : ∀ j, j < 10 → ∀ f : BitLoc, s.cfg.io.otherPieces[j]? = some f.piece → a ≠ f.addr := fun j hj f hf =>
    Config.byte_ne_bit hv i j (by omega) ha hf
  simp only [State.rtcFlags, List.forall_mem_cons, List.not_mem_nil, false_implies, implies_true, and_true]
  exact ⟨place 5 (by decide) _ rfl, place 6 (by decide) _ rfl, place 7 (by decide) _ rfl, place 8 (by decide) _ rfl,
    place 9 (by decide) _ rfl⟩

theorem State.rtcTick_stopped (h : s.rtcInit = false) : s.rtcTick = s := by
  unfold State.rtcTick
  rw [h]
  exact if_neg Bool.false_ne_true

/-- What reading the wall clock keeps. -/
theorem State.readWall_keeps (s : State) :
    s.readWall.2 = { s with wallNow := s.readWall.2.wallNow, wallQueue := s.readWall.2.wallQueue } := by
  obtain h | ⟨w, ws, -, h⟩ := s.readWall_cases
  · rw [h]
  · rw [h]

theorem State.rtcTick_started (h : s.rtcInit = true) :
    s.rtcTick = { ({ s.readWall.2.writeClock s.readWall.1 with rtcQuarter := s.rtcQuarter + 1 } : State).raiseIf
        (s.rtcFlags s.readWall.1) with rtcPrev := ⟨s.readWall.1.sec, s.readWall.1.min, s.readWall.1.hour⟩ } := by
  have same := s.readWall_keeps
  have quarter : s.readWall.2.rtcQuarter = s.rtcQuarter := by rw [same]
  unfold State.rtcTick State.rtcFlags
  rw [if_pos h, ← quarter]
  rfl

theorem writeClock_frame (m : State) (w : WallClock) : m.keepsAllButMem (m.writeClock w) :=
  .trans (.trans (.trans (.rawSet ..) (.rawSet ..)) (.rawSet ..)) (.rawSet ..)

/-- The clock fields after a rewrite (rule R1221). -/
theorem writeClock_facts {m : State} (hv : m.cfg.valid = true) (w : WallClock) :
    (m.writeClock w).raw m.cfg.io.rtcSec = bcd w.sec ∧ (m.writeClock w).raw m.cfg.io.rtcMin = bcd w.min
      ∧ (m.writeClock w).raw m.cfg.io.rtcHour = bcd w.hour ∧ (m.writeClock w).raw m.cfg.io.rtcDay = bcd w.day
      ∧ ∀ bits, m.keepsBut (m.writeClock w) [m.cfg.io.rtcSec, m.cfg.io.rtcMin, m.cfg.io.rtcHour, m.cfg.io.rtcDay]
          bits := by
  have ne : ∀ (i j : Nat) (a b : Addr), i ≠ j → m.cfg.io.otherPieces[i]? = some (a, 0xFF#8) →
      m.cfg.io.otherPieces[j]? = some (b, 0xFF#8) → a ≠ b := fun i j _ _ h ha hb => Config.byte_ne_byte hv i j h ha hb
  have secMin := ne 39 40 m.cfg.io.rtcSec m.cfg.io.rtcMin (by decide) rfl rfl
  have secHour := ne 39 41 m.cfg.io.rtcSec m.cfg.io.rtcHour (by decide) rfl rfl
  have secDay := ne 39 42 m.cfg.io.rtcSec m.cfg.io.rtcDay (by decide) rfl rfl
  have minHour := ne 40 41 m.cfg.io.rtcMin m.cfg.io.rtcHour (by decide) rfl rfl
  have minDay := ne 40 42 m.cfg.io.rtcMin m.cfg.io.rtcDay (by decide) rfl rfl
  have hourDay := ne 41 42 m.cfg.io.rtcHour m.cfg.io.rtcDay (by decide) rfl rfl
  unfold State.writeClock
  simp only [State.raw_rawSet, if_neg secMin, if_neg secHour, if_neg secDay, if_neg minHour, if_neg minDay,
    if_neg hourDay, if_pos, true_and]
  exact fun bits => .trans (.trans (.trans (State.keepsBut_rawSet _ _ _ (by simp))
    (State.keepsBut_rawSet _ _ _ (by simp))) (State.keepsBut_rawSet _ _ _ (by simp)))
    (State.keepsBut_rawSet _ _ _ (by simp))

theorem rtcFlags_not_clock (hv : s.cfg.valid = true) {q : Bool × BitLoc} (hq : q ∈ s.rtcFlags w) :
    q.2.addr ∉ [s.cfg.io.rtcSec, s.cfg.io.rtcMin, s.cfg.io.rtcHour, s.cfg.io.rtcDay] := by
  have sec := rtcFlags_byte_ne hv 39 (by decide) (a := s.cfg.io.rtcSec) rfl q hq
  have min := rtcFlags_byte_ne hv 40 (by decide) (a := s.cfg.io.rtcMin) rfl q hq
  have hour := rtcFlags_byte_ne hv 41 (by decide) (a := s.cfg.io.rtcHour) rfl q hq
  have day := rtcFlags_byte_ne hv 42 (by decide) (a := s.cfg.io.rtcDay) rfl q hq
  simp only [List.mem_cons, List.not_mem_nil, or_false, not_or]
  exact ⟨Ne.symm sec, Ne.symm min, Ne.symm hour, Ne.symm day⟩

end

/-- Settles O52: the reading, the four fields, the five flags. -/
theorem rtcTicks : Obligations.RtcTicks := by
  rintro s t w hv rfl rfl
  refine ⟨State.rtcTick_stopped, fun started => ?_⟩
  have same := s.readWall_keeps
  have cfg : s.readWall.2.cfg = s.cfg := by rw [same]
  obtain ⟨sec, min, hour, day, clockKept⟩ := writeClock_facts (m := s.readWall.2) (by rwa [cfg]) s.readWall.1
  rw [cfg] at sec min hour day clockKept
  have flags := rtcFlags_byte_ne (s := s) (w := s.readWall.1) hv
  rw [State.rtcTick_started started]
  obtain ⟨clock, hclock⟩ : ∃ u : State,
    u = { s.readWall.2.writeClock s.readWall.1 with rtcQuarter := s.rtcQuarter + 1 } := ⟨_, rfl⟩
  have raws : ∀ x, clock.raw x = (s.readWall.2.writeClock s.readWall.1).raw x := fun x => by rw [hclock]; rfl
  have frame := State.keepsAllButMem.raiseIf clock (s.rtcFlags s.readWall.1)
  have raised : ∀ q ∈ s.rtcFlags s.readWall.1, (clock.raiseIf (s.rtcFlags s.readWall.1)).bit q.2 = (q.1 || s.bit q.2) :=
    fun q hq => by
      rw [State.bit_raiseIf (rtcFlags_apart hv) hq, State.bit_congr _ (raws _),
        (clockKept []).2 q.2 (rtcFlags_not_clock hv hq) List.not_mem_nil, same]
      rfl
  have kept := State.keepsBut_raiseIf (fs := s.rtcFlags s.readWall.1) clock
    [s.cfg.io.rtcSec, s.cfg.io.rtcMin, s.cfg.io.rtcHour, s.cfg.io.rtcDay]
    (bits := [s.cfg.io.flagRtcQuarter, s.cfg.io.flagRtcHalf, s.cfg.io.flagRtcSecond, s.cfg.io.flagRtcMinute,
      s.cfg.io.flagRtcHour]) (by simp [State.rtcFlags])
  have byte : ∀ (i : Nat) (a : Addr), 10 ≤ i → s.cfg.io.otherPieces[i]? = some (a, 0xFF#8) →
      (clock.raiseIf (s.rtcFlags s.readWall.1)).raw a = (s.readWall.2.writeClock s.readWall.1).raw a :=
    fun i a hi ha => (State.raw_raiseIf (flags i hi ha)).trans (raws a)
  rw [← hclock]
  generalize clock.raiseIf (s.rtcFlags s.readWall.1) = u at frame raised kept byte
  have flag : ∀ (p : Prop) [Decidable p] (f : BitLoc), (decide p, f) ∈ s.rtcFlags s.readWall.1 →
      (u.bit f = true ↔ s.bit f = true ∨ p) := fun p _ f hf => by
    rw [raised _ hf, Bool.or_eq_true, decide_eq_true_iff, or_comm]
  have parity : (s.rtcQuarter + 1) % 2 = 0 ↔ s.rtcQuarter % 2 = 1 := by omega
  refine ⟨?_, ?_, ?_, ?_, raised _ (.head _), (flag _ _ (.tail _ (.head _))).trans (or_congr_right parity),
    flag _ _ (.tail _ (.tail _ (.head _))), flag _ _ (.tail _ (.tail _ (.tail _ (.head _)))),
    flag _ _ (.tail _ (.tail _ (.tail _ (.tail _ (.head _))))), ?_, ?_⟩
  · exact (congrArg BitVec.toNat ((byte 39 _ (by decide) rfl).trans sec)).trans (bcd_toNat (by omega))
  · exact (congrArg BitVec.toNat ((byte 40 _ (by decide) rfl).trans min)).trans (bcd_toNat (by omega))
  · exact (congrArg BitVec.toNat ((byte 41 _ (by decide) rfl).trans hour)).trans (bcd_toNat (by omega))
  · exact (congrArg BitVec.toNat ((byte 42 _ (by decide) rfl).trans day)).trans (bcd_toNat (by omega))
  · unfold State.keepsAllButMem at frame
    generalize u.mem = memory at frame
    have written := writeClock_frame s.readWall.2 s.readWall.1
    unfold State.keepsAllButMem at written
    rw [frame, hclock, written]
  · have first := clockKept (bits := [s.cfg.io.flagRtcQuarter, s.cfg.io.flagRtcHalf, s.cfg.io.flagRtcSecond,
      s.cfg.io.flagRtcMinute, s.cfg.io.flagRtcHour])
    have start : s.keepsBut s.readWall.2 [s.cfg.io.rtcSec, s.cfg.io.rtcMin, s.cfg.io.rtcHour, s.cfg.io.rtcDay]
        [s.cfg.io.flagRtcQuarter, s.cfg.io.flagRtcHalf, s.cfg.io.flagRtcSecond, s.cfg.io.flagRtcMinute,
          s.cfg.io.flagRtcHour] := (State.keepsBut.refl s _ _).congr (by rw [same])
    have reached := (start.trans (first.congr (u := clock) (by rw [hclock]))).trans kept
    exact reached.congr rfl

/-! ### SCI3 (`60_exceptions.md` rule R1250) -/

/-- A firmware write to SCI3_TDR stores the byte and clears the two flags, and touches nothing else. -/
theorem State.store8_sciTdr (s : State) (b : Byte) (hv : s.cfg.valid = true) :
    s.store8 s.cfg.io.sciTdr b
      = ((s.rawSet s.cfg.io.sciTdr b).setBit s.cfg.io.sciTdre false).setBit s.cfg.io.sciTend false := by
  have ssu : s.cfg.io.sciTdr ≠ s.cfg.io.ssuTdr := Config.byte_ne_byte hv 46 43 (by decide) rfl rfl
  have tb1 : s.cfg.io.sciTdr ≠ s.cfg.io.tb1Cnt := Config.byte_ne_byte hv 46 38 (by decide) rfl rfl
  have eep : s.cfg.io.sciTdr ≠ s.cfg.io.csEeprom.addr := Config.byte_ne_bit hv 46 25 (by decide) rfl rfl
  have accel : s.cfg.io.sciTdr ≠ s.cfg.io.csAccel.addr := Config.byte_ne_bit hv 46 26 (by decide) rfl rfl
  have lcd : s.cfg.io.sciTdr ≠ s.cfg.io.csLcd.addr := Config.byte_ne_bit hv 46 27 (by decide) rfl rfl
  unfold State.store8 State.writeHook State.setBit State.rawSet Memory.writeHook deselects
  simp [ssu, tb1, eep, accel, lcd]

section
variable {s : State}

theorem sciTransmit_off (h : s.bit s.cfg.io.sciTe = false) : s.sciTransmit = s.setBit s.cfg.io.sciTdre true := by
  simp only [State.sciTransmit, h, Bool.not_false, if_true]

theorem sciTransmit_idle (h : s.bit s.cfg.io.sciTe = true) (empty : s.bit s.cfg.io.sciTdre = true) :
    s.sciTransmit = s := by
  simp only [State.sciTransmit, h, empty, Bool.not_true, Bool.false_eq_true, if_false, if_true]

theorem sciTransmit_sends (h : s.bit s.cfg.io.sciTe = true) (full : s.bit s.cfg.io.sciTdre = false) :
    s.sciTransmit = ((s.emit (.irTx (s.raw s.cfg.io.sciTdr))).setBit s.cfg.io.sciTdre true).setBit s.cfg.io.sciTend
      true := by
  simp only [State.sciTransmit, h, full, Bool.not_true, Bool.false_eq_true, if_false]

theorem sciReceive_takes {b : Byte} {rest : List Byte} (queue : s.irRx = b :: rest) (h : s.bit s.cfg.io.sciRe = true)
    (free : s.bit s.cfg.io.sciRdrf = false) :
    s.sciReceive = ({ s with irRx := rest }.rawSet s.cfg.io.sciRdr b).setBit s.cfg.io.sciRdrf true := by
  simp only [State.sciReceive, queue, h, free, Bool.not_false, Bool.and_self, if_true]

theorem sciReceive_waits (h : s.irRx = [] ∨ s.bit s.cfg.io.sciRe = false ∨ s.bit s.cfg.io.sciRdrf = true) :
    s.sciReceive = s := by
  unfold State.sciReceive
  split
  · rfl
  case h_2 b rest queue =>
    refine if_neg fun both => ?_
    rw [Bool.and_eq_true, Bool.not_eq_true'] at both
    simp [queue, both.1, both.2] at h

end

/-- What the transmit half of a tick does (rule R1250): the frame, and what the receive half sees of it. -/
theorem sciTransmit_facts {s m : State} (hv : s.cfg.valid = true) (hm : m = s.sciTransmit) :
    m.bit s.cfg.io.sciTdre = true ∧ m = { s with mem := m.mem, out := m.out }
      ∧ s.keepsBut m [] [s.cfg.io.sciTdre, s.cfg.io.sciTend]
      ∧ (s.bit s.cfg.io.sciTe = true ∧ s.bit s.cfg.io.sciTdre = false →
          m.out = s.out ++ [.irTx (s.raw s.cfg.io.sciTdr)] ∧ m.bit s.cfg.io.sciTend = true)
      ∧ (¬ (s.bit s.cfg.io.sciTe = true ∧ s.bit s.cfg.io.sciTdre = false) →
          m.out = s.out ∧ m.bit s.cfg.io.sciTend = s.bit s.cfg.io.sciTend) := by
  have apart := Config.bits_disjoint hv 31 33 (by decide) (f := s.cfg.io.sciTdre) (g := s.cfg.io.sciTend) rfl rfl
  subst hm
  cases te : s.bit s.cfg.io.sciTe with
  | false =>
    rw [sciTransmit_off te]
    refine ⟨State.bit_setBit_self .., rfl, State.keepsBut_setBit _ _ _ (by simp), ?_, fun _ => ⟨rfl, ?_⟩⟩
    · simp
    · exact State.bit_setBit_of_disjoint _ _ apart
  | true =>
    cases tdre : s.bit s.cfg.io.sciTdre with
    | true =>
      rw [sciTransmit_idle te tdre]
      exact ⟨tdre, rfl, .refl .., by simp, fun _ => ⟨rfl, rfl⟩⟩
    | false =>
      rw [sciTransmit_sends te tdre]
      have emitted : s.keepsBut (s.emit (.irTx (s.raw s.cfg.io.sciTdr))) [] [s.cfg.io.sciTdre, s.cfg.io.sciTend] :=
        (State.keepsBut.refl s _ _).congr rfl
      refine ⟨?_, rfl, (emitted.trans (State.keepsBut_setBit _ _ _ (by simp))).trans
        (State.keepsBut_setBit _ _ _ (by simp)), fun _ => ⟨rfl, State.bit_setBit_self ..⟩, by simp⟩
      rw [State.bit_setBit_of_disjoint _ _ ((Piece.disjoint_comm _ _).trans apart), State.bit_setBit_self]

/-- What the receive half of a tick does (rule R1250). -/
theorem sciReceive_facts {m t : State} (hv : m.cfg.valid = true) (ht : t = m.sciReceive) :
    t = { m with mem := t.mem, irRx := t.irRx } ∧ m.keepsBut t [m.cfg.io.sciRdr] [m.cfg.io.sciRdrf]
      ∧ (∀ b rest, m.irRx = b :: rest → m.bit m.cfg.io.sciRe = true → m.bit m.cfg.io.sciRdrf = false →
          t.irRx = rest ∧ t.raw m.cfg.io.sciRdr = b ∧ t.bit m.cfg.io.sciRdrf = true)
      ∧ (m.irRx = [] ∨ m.bit m.cfg.io.sciRe = false ∨ m.bit m.cfg.io.sciRdrf = true → t = m) := by
  subst ht
  by_cases waits : m.irRx = [] ∨ m.bit m.cfg.io.sciRe = false ∨ m.bit m.cfg.io.sciRdrf = true
  · rw [sciReceive_waits waits]
    refine ⟨rfl, .refl .., fun b rest queue re free => ?_, fun _ => rfl⟩
    simp [queue, re, free] at waits
  · rw [not_or, not_or, Bool.not_eq_false, Bool.not_eq_true] at waits
    obtain ⟨queue, re, free⟩ := waits
    obtain ⟨b, rest, queue⟩ := List.exists_cons_of_ne_nil queue
    have apart := Config.byte_ne_bit hv 47 32 (by decide) (a := m.cfg.io.sciRdr) (f := m.cfg.io.sciRdrf) rfl rfl
    have popped : m.keepsBut ({ m with irRx := rest } : State) [m.cfg.io.sciRdr] [m.cfg.io.sciRdrf] :=
      (State.keepsBut.refl m _ _).congr rfl
    rw [sciReceive_takes queue re free]
    refine ⟨rfl, (popped.trans (State.keepsBut_rawSet _ _ _ (by simp))).trans (State.keepsBut_setBit _ _ _ (by simp)),
      fun b' rest' queue' _ _ => ?_, fun waits => ?_⟩
    · obtain ⟨rfl, rfl⟩ := List.cons.inj (queue.symm.trans queue')
      exact ⟨rfl, by rw [State.raw_setBit, if_neg apart, State.raw_rawSet, if_pos rfl], State.bit_setBit_self ..⟩
    · simp [queue, re, free] at waits

theorem sciTick_out {s : State} (hv : s.cfg.valid = true) : s.sciTick.out = s.sciTransmit.out := by
  obtain ⟨-, frame, -⟩ := sciTransmit_facts hv rfl
  have cfg : s.sciTransmit.cfg = s.cfg := by rw [frame]
  obtain ⟨received, -⟩ := sciReceive_facts (m := s.sciTransmit) (by rwa [cfg]) rfl
  have out := congrArg State.out received
  exact out

theorem store8_sciTdr_sciTick_out {s : State} (hv : s.cfg.valid = true) (te : s.bit s.cfg.io.sciTe = true) (b : Byte) :
    (s.store8 s.cfg.io.sciTdr b).sciTick.out = s.out ++ [.irTx b] := by
  have tdrTdre := Config.byte_ne_bit hv 46 31 (by decide) (a := s.cfg.io.sciTdr) (f := s.cfg.io.sciTdre) rfl rfl
  have tdrTend := Config.byte_ne_bit hv 46 33 (by decide) (a := s.cfg.io.sciTdr) (f := s.cfg.io.sciTend) rfl rfl
  have tdrTe := Config.byte_ne_bit hv 46 29 (by decide) (a := s.cfg.io.sciTdr) (f := s.cfg.io.sciTe) rfl rfl
  have apart := Config.bits_disjoint hv 33 31 (by decide) (f := s.cfg.io.sciTend) (g := s.cfg.io.sciTdre) rfl rfl
  rw [State.store8_sciTdr s b hv]
  obtain ⟨m, hm⟩ : ∃ m,
    m = ((s.rawSet s.cfg.io.sciTdr b).setBit s.cfg.io.sciTdre false).setBit s.cfg.io.sciTend false := ⟨_, rfl⟩
  have cfg : m.cfg = s.cfg := by rw [hm]; rfl
  have pending : m.bit s.cfg.io.sciTdre = false := by
    rw [hm, State.bit_setBit_of_disjoint _ _ apart, State.bit_setBit_self]
  have on : m.bit s.cfg.io.sciTe = true := by
    rw [hm, State.bit_setBit_of_disjoint _ _ (Config.bits_disjoint hv 33 29 (by decide) rfl rfl),
      State.bit_setBit_of_disjoint _ _ (Config.bits_disjoint hv 31 29 (by decide) rfl rfl),
      State.bit_congr _ ((State.raw_rawSet ..).trans (if_neg (Ne.symm tdrTe))), te]
  have byte : m.raw s.cfg.io.sciTdr = b := by
    rw [hm, State.raw_setBit, if_neg tdrTend, State.raw_setBit, if_neg tdrTdre, State.raw_rawSet, if_pos rfl]
  have out : m.out = s.out := by rw [hm]; rfl
  rw [← hm]
  obtain ⟨-, -, -, sent, -⟩ := sciTransmit_facts (s := m) (by rwa [cfg]) rfl
  rw [cfg, byte, out] at sent
  rw [sciTick_out (by rwa [cfg])]
  exact (sent ⟨on, pending⟩).1

/-- Settles O58: the two halves of a tick. -/
theorem sciTicks : Obligations.SciTicks := by
  intro s t hv ht
  obtain ⟨m, hm⟩ : ∃ m, m = s.sciTransmit := ⟨_, rfl⟩
  obtain ⟨empty, frame, kept, sent, idle⟩ := sciTransmit_facts hv hm
  have cfg : m.cfg = s.cfg := by rw [frame]
  have queue : m.irRx = s.irRx := by rw [frame]
  have re := kept.2 s.cfg.io.sciRe List.not_mem_nil (by
    simpa using ⟨bit_ne_of_piece_disjoint (Config.bits_disjoint hv 30 31 (by decide) rfl rfl),
      bit_ne_of_piece_disjoint (Config.bits_disjoint hv 30 33 (by decide) rfl rfl)⟩)
  have rdrf := kept.2 s.cfg.io.sciRdrf List.not_mem_nil (by
    simpa using ⟨bit_ne_of_piece_disjoint (Config.bits_disjoint hv 32 31 (by decide) rfl rfl),
      bit_ne_of_piece_disjoint (Config.bits_disjoint hv 32 33 (by decide) rfl rfl)⟩)
  have rdr := kept.1 s.cfg.io.sciRdr List.not_mem_nil (by
    simpa using ⟨Config.byte_ne_bit hv 47 31 (by decide) rfl rfl, Config.byte_ne_bit hv 47 33 (by decide) rfl rfl⟩)
  obtain ⟨frame', kept', takes, waits⟩ := sciReceive_facts (m := m) (t := t) (by rwa [cfg]) (by rw [ht, hm]; rfl)
  rw [cfg] at kept' takes waits
  rw [queue, re, rdrf] at takes waits
  have out : t.out = m.out := by rw [frame']
  have tdre := kept'.2 s.cfg.io.sciTdre (by simpa using Ne.symm (Config.byte_ne_bit hv 47 31 (by decide) rfl rfl))
    (by simpa using bit_ne_of_piece_disjoint (Config.bits_disjoint hv 31 32 (by decide) rfl rfl))
  have tend := kept'.2 s.cfg.io.sciTend (by simpa using Ne.symm (Config.byte_ne_bit hv 47 33 (by decide) rfl rfl))
    (by simpa using bit_ne_of_piece_disjoint (Config.bits_disjoint hv 33 32 (by decide) rfl rfl))
  rw [empty] at tdre
  rw [out, tdre, tend]
  refine ⟨fun te => ?_, fun te full => ?_, fun te full => ?_, fun b te => store8_sciTdr_sciTick_out hv te b, takes,
    fun none => ?_, ?_, ?_⟩
  · obtain ⟨same, tend⟩ := idle (by simp [te])
    exact ⟨rfl, same, tend⟩
  · obtain ⟨same, tend⟩ := idle (by simp [full])
    exact ⟨same, rfl, tend⟩
  · obtain ⟨emitted, tend⟩ := sent ⟨te, full⟩
    exact ⟨emitted, rfl, tend⟩
  · rw [waits none]
    exact ⟨queue, rdr, rdrf⟩
  · rw [frame', frame]
  · exact (kept.mono (List.nil_subset _) (by simp)).trans (kept'.mono (by simp) (by simp))

end Sys2Proof.Machine
end

section
/-! SUPPORT. An SSU tick by its parts: what each device does, of what fields, and the end of the transfer. -/

namespace Sys2Proof.Machine
set_option Elab.async false

/-! ### What each device changes: `w` with the device's fields of `t` -/

def State.withEep (w t : State) : State := { w with eep := t.eep, eepMem := t.eepMem, out := t.out }
def State.withAcc (w t : State) : State := { w with acc := t.acc, accMem := t.accMem }
def State.withLcd (w t : State) : State := { w with lcd := t.lcd, fb := t.fb }

/-- What each device sees: the parameters and its own fields. -/
def State.seesEep (w s : State) : Prop := w.cfg = s.cfg ∧ w.eep = s.eep ∧ w.eepMem = s.eepMem ∧ w.out = s.out
def State.seesAcc (w s : State) : Prop := w.cfg = s.cfg ∧ w.acc = s.acc ∧ w.accMem = s.accMem
def State.seesLcd (w s : State) : Prop := w.cfg = s.cfg ∧ w.lcd = s.lcd ∧ w.fb = s.fb

section
variable {w s : State} (mode : SsuMode) (tx : Byte)

theorem State.seesEep.eq (h : w.seesEep s) :
    ∃ m : State, w = { m with cfg := s.cfg, eep := s.eep, eepMem := s.eepMem, out := s.out } := by
  obtain ⟨cfg, eep, eepMem, out⟩ := h
  exact ⟨w, by rw [← cfg, ← eep, ← eepMem, ← out]⟩

theorem State.seesAcc.eq (h : w.seesAcc s) :
    ∃ m : State, w = { m with cfg := s.cfg, acc := s.acc, accMem := s.accMem } := by
  obtain ⟨cfg, acc, accMem⟩ := h
  exact ⟨w, by rw [← cfg, ← acc, ← accMem]⟩

theorem State.seesLcd.eq (h : w.seesLcd s) : ∃ m : State, w = { m with cfg := s.cfg, lcd := s.lcd, fb := s.fb } := by
  obtain ⟨cfg, lcd, fb⟩ := h
  exact ⟨w, by rw [← cfg, ← lcd, ← fb]⟩

theorem eepCommand_congr (h : w.seesEep s) : w.eepCommand tx = w.withEep (s.eepCommand tx) := by
  obtain ⟨m, rfl⟩ := h.eq
  simp only [State.eepCommand, apply_ite (State.withEep _)]
  rfl

/-- The EEPROM at a byte boundary: what it sends back goes before what was received. -/
theorem eepByte_congr (h : w.seesEep s) (rx : Option Byte) :
    w.eepByte mode tx rx = ((s.eepByte mode tx none).1.or rx, w.withEep (s.eepByte mode tx none).2) := by
  have command := eepCommand_congr tx h
  obtain ⟨m, rfl⟩ := h.eq
  simp only [State.eepByte]
  cases s.eep.state with
  | waiting => exact congrArg (rx, ·) command
  | addrHigh => rfl
  | addrLow => rfl
  | readData => cases mode <;> rfl
  | writeData => rfl
  | readStatus => cases mode <;> rfl

theorem eepCycle_within (h : s.eep.progress ≠ 6) (rx : Option Byte) :
    s.eepCycle mode tx rx = (false, rx, { s with eep := { s.eep with progress := s.eep.progress + 1 } }) := by
  simp only [State.eepCycle, frame, h, decide_false, Bool.false_eq_true, if_false]

theorem eepCycle_boundary (h : s.eep.progress = 6) (rx : Option Byte) :
    s.eepCycle mode tx rx = (true, { s with eep := { s.eep with progress := 0 } }.eepByte mode tx rx) := by
  simp only [State.eepCycle, frame, h, decide_true, if_true]
  rfl

theorem eepCycle_congr (h : w.seesEep s) (rx : Option Byte) :
    w.eepCycle mode tx rx = ((s.eepCycle mode tx none).1, (s.eepCycle mode tx none).2.1.or rx,
      w.withEep (s.eepCycle mode tx none).2.2) := by
  obtain ⟨cfg, eep, eepMem, out⟩ := h
  by_cases boundary : s.eep.progress = 6
  · have sees : ({ w with eep := { w.eep with progress := 0 } } : State).seesEep
        { s with eep := { s.eep with progress := 0 } } := ⟨cfg, by rw [eep], eepMem, out⟩
    rw [eepCycle_boundary mode tx boundary, eepCycle_boundary mode tx (by rwa [eep]), eepByte_congr mode tx sees]
    rfl
  · rw [eepCycle_within mode tx boundary, eepCycle_within mode tx (by rwa [eep])]
    show (_, _, _) = (_, _, { w with eep := { s.eep with progress := _ }, eepMem := s.eepMem, out := s.out })
    rw [← eep, ← eepMem, ← out]
    rfl

/-- The accelerometer's answer, put before what was received and into the state `w`. -/
def State.accelAnswerIn (w : State) (rx : Option Byte) (r : Option Byte × State) : Option Byte × State :=
  (r.1.or rx, w.withAcc r.2)

theorem accelByte_congr (h : w.seesAcc s) (rx : Option Byte) :
    w.accelByte mode tx rx = (s.accelByte mode tx none).map (w.accelAnswerIn rx) := by
  obtain ⟨m, rfl⟩ := h.eq
  simp only [State.accelByte]
  cases s.acc.state with
  | waiting => rfl
  | data =>
    by_cases past : s.cfg.accelSize ≤ s.acc.index
    · simp only [if_pos past]
      rfl
    · simp only [if_neg past]
      cases mode <;> rfl

theorem lcdData_congr (h : w.seesLcd s) : w.lcdData tx = (s.lcdData tx).map w.withLcd := by
  obtain ⟨m, rfl⟩ := h.eq
  unfold State.lcdData
  by_cases past : Config.fbSize s.cfg ≤ s.lcd.index s.cfg.lcdWidth
  · simp only [if_pos past]
    rfl
  · simp only [if_neg past]
    rfl

theorem lcdCycle_within (h : s.lcd.progress ≠ 6) (path : LcdPath) :
    s.lcdCycle path tx = .ok (false, { s with lcd := { s.lcd with progress := s.lcd.progress + 1 } }) := by
  simp only [State.lcdCycle, frame, h, decide_false, Bool.false_eq_true, if_false]

theorem lcdCycle_data (h : s.lcd.progress = 6) :
    s.lcdCycle .data tx = ({ s with lcd := { s.lcd with progress := 0 } }.lcdData tx).map (true, ·) := by
  have next : frame s.lcd.progress = (0, true) := by rw [h]; rfl
  unfold State.lcdCycle
  rw [next]
  dsimp only
  generalize ({ s with lcd := { s.lcd with progress := 0 } } : State).lcdData tx = r
  cases r <;> rfl

theorem lcdCycle_command (h : s.lcd.progress = 6) :
    s.lcdCycle .command tx = .ok (true, { s with lcd := { s.lcd with progress := 0 }.command tx }) := by
  have next : frame s.lcd.progress = (0, true) := by rw [h]; rfl
  unfold State.lcdCycle
  rw [next]
  rfl

theorem lcdCycle_congr (h : w.seesLcd s) (path : LcdPath) :
    w.lcdCycle path tx = (s.lcdCycle path tx).map (Prod.map id w.withLcd) := by
  obtain ⟨cfg, lcd, fb⟩ := h
  by_cases boundary : s.lcd.progress = 6
  · have sees : ({ w with lcd := { w.lcd with progress := 0 } } : State).seesLcd
        { s with lcd := { s.lcd with progress := 0 } } := ⟨cfg, by rw [lcd], fb⟩
    cases path with
    | command =>
      rw [lcdCycle_command tx boundary, lcdCycle_command tx (by rwa [lcd])]
      show Except.ok (_, _)
        = Except.ok (_, ({ w with lcd := Lcd.command { s.lcd with progress := 0 } tx, fb := s.fb } : State))
      rw [← lcd, ← fb]
      rfl
    | data =>
      rw [lcdCycle_data tx boundary, lcdCycle_data tx (by rwa [lcd]), lcdData_congr tx sees]
      cases ({ s with lcd := { s.lcd with progress := 0 } } : State).lcdData tx <;> rfl
  · rw [lcdCycle_within tx boundary, lcdCycle_within tx (by rwa [lcd])]
    show Except.ok (_, _) = Except.ok (_, ({ w with lcd := { s.lcd with progress := _ }, fb := s.fb } : State))
    rw [← lcd, ← fb]
    rfl

/-! ### The parts of a tick with a byte pending (`60_exceptions.md` rule R1232) -/

/-- The mode of a tick (rule R1230). -/
def State.ssuMode (s : State) : SsuMode := if s.bit s.cfg.io.ssuRe then .combined else .txonly

/-- What the accelerometer does: whether it takes the byte, what it sends back, its state. -/
def State.accelPart (s : State) (tx : Byte) : Except FaultKind (Bool × Option Byte × State) :=
  if s.selected s.cfg.io.csAccel s.cfg.csAccelActive then (s.accelByte s.ssuMode tx none).map (true, ·)
  else .ok (false, none, s)

/-- What the EEPROM does. -/
def State.eepPart (s : State) (tx : Byte) : Bool × Option Byte × State :=
  if s.selected s.cfg.io.csEeprom s.cfg.csEepromActive then s.eepCycle s.ssuMode tx none else (false, none, s)

/-- What the LCD controller does: nothing in combined mode. -/
def State.lcdPart (s : State) (tx : Byte) : Except FaultKind (Bool × State) :=
  if s.bit s.cfg.io.ssuRe then .ok (false, s) else s.ssuLcd tx

theorem ssuMode_congr (cfg : w.cfg = s.cfg) (re : w.bit s.cfg.io.ssuRe = s.bit s.cfg.io.ssuRe) :
    w.ssuMode = s.ssuMode := by
  rw [State.ssuMode, cfg, re, State.ssuMode]

theorem selected_congr {cs : BitLoc} (active : Bool) (h : w.bit cs = s.bit cs) :
    w.selected cs active = s.selected cs active := by
  rw [State.selected, h, State.selected]

theorem accelPart_congr (h : w.seesAcc s) (re : w.bit s.cfg.io.ssuRe = s.bit s.cfg.io.ssuRe)
    (cs : w.bit s.cfg.io.csAccel = s.bit s.cfg.io.csAccel) :
    w.accelPart tx = (s.accelPart tx).map (Prod.map id (Prod.map id w.withAcc)) := by
  have mode := ssuMode_congr h.1 re
  unfold State.accelPart
  rw [h.1, selected_congr _ cs, mode]
  split
  · rw [accelByte_congr _ tx h]
    cases s.accelByte s.ssuMode tx none with
    | error k => rfl
    | ok r => exact congrArg (fun rx => Except.ok (true, rx, w.withAcc r.2)) Option.or_none
  · obtain ⟨-, acc, accMem⟩ := h
    show Except.ok (_, _, w) = Except.ok (_, _, ({ w with acc := s.acc, accMem := s.accMem } : State))
    rw [← acc, ← accMem]
    rfl

theorem eepPart_congr (h : w.seesEep s) (re : w.bit s.cfg.io.ssuRe = s.bit s.cfg.io.ssuRe)
    (cs : w.bit s.cfg.io.csEeprom = s.bit s.cfg.io.csEeprom) :
    w.eepPart tx = ((s.eepPart tx).1, (s.eepPart tx).2.1, w.withEep (s.eepPart tx).2.2) := by
  have mode := ssuMode_congr h.1 re
  unfold State.eepPart
  rw [h.1, selected_congr _ cs, mode]
  split
  · rw [eepCycle_congr _ tx h, Option.or_none]
  · obtain ⟨-, eep, eepMem, out⟩ := h
    show (_, _, w) = (_, _, ({ w with eep := s.eep, eepMem := s.eepMem, out := s.out } : State))
    rw [← eep, ← eepMem, ← out]

theorem ssuLcd_congr (h : w.seesLcd s) (dc : w.bit s.cfg.io.lcdDc = s.bit s.cfg.io.lcdDc)
    (cs : w.bit s.cfg.io.csLcd = s.bit s.cfg.io.csLcd) :
    w.ssuLcd tx = (s.ssuLcd tx).map (Prod.map id w.withLcd) := by
  have path : w.dcAsserted = s.dcAsserted := by rw [State.dcAsserted, h.1, dc, State.dcAsserted]
  unfold State.ssuLcd
  rw [h.1, selected_congr _ cs, path]
  split
  · exact lcdCycle_congr tx h _
  split
  · exact lcdCycle_congr tx h _
  · obtain ⟨-, lcd, fb⟩ := h
    show Except.ok (_, w) = Except.ok (_, ({ w with lcd := s.lcd, fb := s.fb } : State))
    rw [← lcd, ← fb]
    rfl

theorem lcdPart_congr (h : w.seesLcd s) (re : w.bit s.cfg.io.ssuRe = s.bit s.cfg.io.ssuRe)
    (dc : w.bit s.cfg.io.lcdDc = s.bit s.cfg.io.lcdDc) (cs : w.bit s.cfg.io.csLcd = s.bit s.cfg.io.csLcd) :
    w.lcdPart tx = (s.lcdPart tx).map (Prod.map id w.withLcd) := by
  unfold State.lcdPart
  rw [h.1, re]
  split
  · obtain ⟨-, lcd, fb⟩ := h
    show Except.ok (_, w) = Except.ok (_, ({ w with lcd := s.lcd, fb := s.fb } : State))
    rw [← lcd, ← fb]
    rfl
  · exact ssuLcd_congr tx h dc cs

/-! ### The tick, by its parts -/

variable {dA dE dL : Bool} {rA rE : Option Byte} {sA sE sL : State} {k : FaultKind}

/-- The state once every device has had its part. -/
def State.served (s sA sE sL : State) : State := ((s.withAcc sA).withEep sE).withLcd sL

theorem accelPart_frame (h : s.accelPart tx = .ok (dA, rA, sA)) : sA = s.withAcc sA := by
  have same := accelPart_congr (w := s) tx ⟨rfl, rfl, rfl⟩ rfl rfl
  rw [h] at same
  exact congrArg (fun r => r.2.2) (Except.ok.inj same)

theorem ssuSelects_of_error (h : s.accelPart tx = .error k) : s.ssuSelects s.ssuMode tx = .error k := by
  unfold State.accelPart at h
  unfold State.ssuSelects
  split at h
  case isTrue on =>
    rw [if_pos on]
    cases accel : s.accelByte s.ssuMode tx none with
    | error k' =>
      rw [accel] at h
      obtain rfl : k' = k := Except.error.inj h
      rfl
    | ok r =>
      rw [accel] at h
      exact nomatch h
  case isFalse => exact nomatch h

/-- The EEPROM's part after the accelerometer's. -/
theorem eepPart_after (hE : s.eepPart tx = (dE, rE, sE)) {u : State} (hu : u = s.withAcc sA) (done : Bool)
    (rx : Option Byte) :
    (if u.selected u.cfg.io.csEeprom u.cfg.csEepromActive then
        (Except.ok (done || (u.eepCycle s.ssuMode tx rx).1, (u.eepCycle s.ssuMode tx rx).2) :
          Except FaultKind (Bool × Option Byte × State))
      else .ok (done, rx, u))
      = .ok (done || dE, rE.or rx, u.withEep sE) := by
  have same : u.selected u.cfg.io.csEeprom u.cfg.csEepromActive
      = s.selected s.cfg.io.csEeprom s.cfg.csEepromActive := by
    rw [hu]
    rfl
  have sees : u.seesEep s := by
    rw [hu]
    exact ⟨rfl, rfl, rfl, rfl⟩
  unfold State.eepPart at hE
  rw [same]
  split at hE
  case isTrue on =>
    rw [if_pos on, eepCycle_congr _ tx sees, hE]
  case isFalse off =>
    obtain ⟨rfl, rfl, rfl⟩ : dE = false ∧ rE = none ∧ sE = s := by simpa [Prod.mk.injEq, eq_comm] using hE
    rw [if_neg off, hu]
    simp only [Bool.or_false, Option.none_or]
    rfl

theorem ssuSelects_ok (hA : s.accelPart tx = .ok (dA, rA, sA)) (hE : s.eepPart tx = (dE, rE, sE)) :
    s.ssuSelects s.ssuMode tx = .ok (dA || dE, rE.or rA, (s.withAcc sA).withEep sE) := by
  have frame := accelPart_frame tx hA
  unfold State.accelPart at hA
  unfold State.ssuSelects
  split at hA
  case isTrue on =>
    rw [if_pos on]
    cases accel : s.accelByte s.ssuMode tx none with
    | error k => rw [accel] at hA; exact nomatch hA
    | ok r =>
      rw [accel] at hA
      obtain ⟨rfl, rfl, rfl⟩ : true = dA ∧ r.1 = rA ∧ r.2 = sA := by
        simpa [Except.map, Prod.ext_iff] using hA
      rw [← frame]
      exact eepPart_after tx hE frame true r.1
  case isFalse off =>
    rw [if_neg off]
    obtain ⟨rfl, rfl, rfl⟩ : false = dA ∧ none = rA ∧ s = sA := by
      simpa [Prod.ext_iff] using hA
    exact eepPart_after tx hE rfl false none

theorem ssuServe_of_accel_error (h : s.accelPart tx = .error k) : s.ssuServe tx = .error k := by
  have selects := ssuSelects_of_error tx h
  unfold State.ssuMode at selects
  unfold State.ssuServe
  split at selects
  case isTrue re => rw [if_pos re, selects]
  case isFalse re => rw [if_neg re, selects]

theorem ssuServe_of_lcd_error (hA : s.accelPart tx = .ok (dA, rA, sA)) (hL : s.lcdPart tx = .error k) :
    s.ssuServe tx = .error k := by
  rcases hE : s.eepPart tx with ⟨dE, rE, sE⟩
  have selects := ssuSelects_ok tx hA hE
  unfold State.lcdPart at hL
  unfold State.ssuMode at selects
  unfold State.ssuServe
  split at hL
  case isTrue => exact nomatch hL
  case isFalse re =>
    rw [if_neg re] at selects
    have lcd := ssuLcd_congr (s := s) (w := (s.withAcc sA).withEep sE) tx ⟨rfl, rfl, rfl⟩ rfl rfl
    rw [hL] at lcd
    rw [if_neg re, selects]
    dsimp only
    rw [lcd]
    rfl

/-- What a tick passes to the end of the transfer: nothing unless in combined mode; there the EEPROM's byte goes
first. -/
def State.received (s : State) (rE rA : Option Byte) : Option Byte := if s.bit s.cfg.io.ssuRe then rE.or rA else none

theorem ssuServe_ok (hA : s.accelPart tx = .ok (dA, rA, sA)) (hE : s.eepPart tx = (dE, rE, sE))
    (hL : s.lcdPart tx = .ok (dL, sL)) :
    s.ssuServe tx = .ok (dA || dE || dL, s.received rE rA, s.served sA sE sL) := by
  have selects := ssuSelects_ok tx hA hE
  unfold State.lcdPart at hL
  unfold State.ssuMode at selects
  unfold State.ssuServe State.received
  split at hL
  case isTrue re =>
    obtain ⟨rfl, rfl⟩ : false = dL ∧ s = sL := by simpa [Prod.ext_iff] using hL
    rw [if_pos re] at selects ⊢
    rw [if_pos re, selects, Bool.or_false]
    rfl
  case isFalse re =>
    rw [if_neg re] at selects ⊢
    have lcd := ssuLcd_congr (s := s) (w := (s.withAcc sA).withEep sE) tx ⟨rfl, rfl, rfl⟩ rfl rfl
    rw [hL] at lcd
    rw [if_neg re, selects]
    dsimp only
    rw [lcd]
    rfl

section
variable (pending : s.ssuPending) (htx : s.raw s.cfg.io.ssuTdr = tx)
include pending htx

theorem ssuTick_of_error (h : s.ssuServe tx = .error k) : s.ssuTick = s.raise k none := by
  obtain ⟨te, tdre⟩ := pending
  simp only [State.ssuTick, te, tdre, Bool.not_true, Bool.false_eq_true, if_false, htx, h]

theorem ssuTick_of_ok (hA : s.accelPart tx = .ok (dA, rA, sA)) (hE : s.eepPart tx = (dE, rE, sE))
    (hL : s.lcdPart tx = .ok (dL, sL)) :
    s.ssuTick = if dA || dE || dL then (s.served sA sE sL).ssuComplete (s.received rE rA) else s.served sA sE sL := by
  obtain ⟨te, tdre⟩ := pending
  simp only [State.ssuTick, te, tdre, Bool.not_true, Bool.false_eq_true, if_false, htx, ssuServe_ok tx hA hE hL]

end

end

end Sys2Proof.Machine
end

section
/-! SUPPORT. The end of an SSU transfer, and the pending byte: the bits of memory that they touch. What each device
does with a byte, and when it sends one back. -/

namespace Sys2Proof.Machine
set_option Elab.async false

/-! ### The end of a transfer (`60_exceptions.md` rule R1232) -/

section
variable {s u : State} {tx : Byte} {combined : Bool}

/-- The empty and end flags, set. -/
def State.flagsSet (u : State) : State := (u.setBit u.cfg.io.ssuTdre true).setBit u.cfg.io.ssuTend true

theorem flagsSet_bit (hv : u.cfg.valid = true) (i : Nat) (h22 : i ≠ 22) (h24 : i ≠ 24) {f : BitLoc}
    (hf : u.cfg.io.otherPieces[i]? = some f.piece) : u.flagsSet.bit f = u.bit f := by
  rw [State.flagsSet, State.bit_setBit_of_disjoint _ _ (Config.bits_disjoint hv 24 i (Ne.symm h24) rfl hf),
    State.bit_setBit_of_disjoint _ _ (Config.bits_disjoint hv 22 i (Ne.symm h22) rfl hf)]

theorem flagsSet_raw (hv : u.cfg.valid = true) (i : Nat) (hi : 38 ≤ i) {a : Addr}
    (ha : u.cfg.io.otherPieces[i]? = some (a, 0xFF#8)) : u.flagsSet.raw a = u.raw a := by
  rw [State.flagsSet, State.raw_setBit, if_neg (Config.byte_ne_bit hv i 24 (by omega) ha rfl), State.raw_setBit,
    if_neg (Config.byte_ne_bit hv i 22 (by omega) ha rfl)]

theorem flagsSet_flags (hv : u.cfg.valid = true) :
    u.flagsSet.bit u.cfg.io.ssuTdre = true ∧ u.flagsSet.bit u.cfg.io.ssuTend = true := by
  refine ⟨?_, State.bit_setBit_self ..⟩
  rw [State.flagsSet, State.bit_setBit_of_disjoint _ _ (Config.bits_disjoint hv 24 22 (by decide) rfl rfl),
    State.bit_setBit_self]

theorem keepsBut_flagsSet (u : State) (bytes : List Addr) {bits : List BitLoc} (h : u.cfg.io.ssuTdre ∈ bits)
    (h' : u.cfg.io.ssuTend ∈ bits) : u.keepsBut u.flagsSet bytes bits :=
  (State.keepsBut_setBit u true bytes h).trans (State.keepsBut_setBit _ true bytes h')

theorem ssuComplete_txonly (hv : u.cfg.valid = true) (re : u.bit u.cfg.io.ssuRe = false) (rx : Option Byte) :
    u.ssuComplete rx = u.flagsSet := by
  have same : u.flagsSet.bit u.cfg.io.ssuRe = false := (flagsSet_bit hv 21 (by decide) (by decide) rfl).trans re
  exact if_neg (Bool.not_eq_true _ ▸ same)

theorem ssuComplete_none (hv : u.cfg.valid = true) (re : u.bit u.cfg.io.ssuRe = true) :
    u.ssuComplete none = u.flagsSet.setBit u.cfg.io.ssuRdrf true :=
  if_pos ((flagsSet_bit hv 21 (by decide) (by decide) rfl).trans re)

theorem ssuComplete_some (hv : u.cfg.valid = true) (re : u.bit u.cfg.io.ssuRe = true) (b : Byte) :
    u.ssuComplete (some b) = (u.flagsSet.rawSet u.cfg.io.ssuRdr b).setBit u.cfg.io.ssuRdrf true :=
  if_pos ((flagsSet_bit hv 21 (by decide) (by decide) rfl).trans re)

theorem ssuComplete_frame (u : State) (rx : Option Byte) : u.keepsAllButMem (u.ssuComplete rx) := by
  have set : u.keepsAllButMem u.flagsSet := .trans (.setBit ..) (.setBit ..)
  unfold State.ssuComplete
  dsimp only
  split
  · cases rx with
    | none => exact set.trans (.setBit ..)
    | some b => exact (set.trans (.rawSet ..)).trans (.setBit ..)
  · exact set

/-- The full flag, once at most SSU_RDR has changed. -/
theorem flagsSet_full {m : State} (hv : u.cfg.valid = true)
    (h : ∀ x, x ≠ u.cfg.io.ssuRdr → m.raw x = u.flagsSet.raw x) {t : State} (ht : t = m.setBit u.cfg.io.ssuRdrf true) :
    t.raw u.cfg.io.ssuTdr = u.raw u.cfg.io.ssuTdr ∧ t.bit u.cfg.io.ssuTdre = true ∧ t.bit u.cfg.io.ssuTend = true
      ∧ t.bit u.cfg.io.ssuRdrf = true ∧ t.raw u.cfg.io.ssuRdr = m.raw u.cfg.io.ssuRdr := by
  obtain ⟨tdre, tend⟩ := flagsSet_flags hv
  subst ht
  refine ⟨?_, ?_, ?_, State.bit_setBit_self .., ?_⟩
  · rw [State.raw_setBit, if_neg (Config.byte_ne_bit hv 43 23 (by decide) rfl rfl),
      h _ (Config.byte_ne_byte hv 43 44 (by decide) rfl rfl), flagsSet_raw hv 43 (by decide) rfl]
  · rw [State.bit_setBit_of_disjoint _ _ (Config.bits_disjoint hv 23 22 (by decide) rfl rfl),
      State.bit_congr _ (h _ (Ne.symm (Config.byte_ne_bit hv 44 22 (by decide) rfl rfl))), tdre]
  · rw [State.bit_setBit_of_disjoint _ _ (Config.bits_disjoint hv 23 24 (by decide) rfl rfl),
      State.bit_congr _ (h _ (Ne.symm (Config.byte_ne_bit hv 44 24 (by decide) rfl rfl))), tend]
  · rw [State.raw_setBit, if_neg (Config.byte_ne_bit hv 44 23 (by decide) rfl rfl)]

/-- The byte of `u` has been taken; what came back stands in SSU_RDR. -/
theorem ssuComplete_taken (hv : s.cfg.valid = true) (cfg : u.cfg = s.cfg)
    (kept : s.keepsBut u [s.cfg.io.ssuTdr] [s.cfg.io.ssuTdre, s.cfg.io.ssuTend]) (tdr : u.raw s.cfg.io.ssuTdr = tx)
    (re : u.bit s.cfg.io.ssuRe = combined) (rx : Option Byte) :
    taken s (u.ssuComplete rx) tx combined (rx.isSome = true)
      ∧ (combined = true → ∀ b, rx = some b → (u.ssuComplete rx).raw s.cfg.io.ssuRdr = b) := by
  have hu : u.cfg.valid = true := by rwa [cfg]
  unfold taken
  rw [← cfg] at kept tdr re ⊢
  have three : s.keepsBut u.flagsSet [u.cfg.io.ssuTdr] [u.cfg.io.ssuTdre, u.cfg.io.ssuTend, u.cfg.io.ssuRdrf] :=
    (kept.mono (List.Subset.refl _) (by simp)).trans (keepsBut_flagsSet u _ (by simp) (by simp))
  cases combined with
  | false =>
    obtain ⟨tdre, tend⟩ := flagsSet_flags hu
    rw [ssuComplete_txonly hu re]
    exact ⟨⟨(flagsSet_raw hu 43 (by decide) rfl).trans tdr, tdre, tend,
      fun _ => kept.trans (keepsBut_flagsSet u _ (by simp) (by simp)), nofun⟩, nofun⟩
  | true =>
    cases rx with
    | none =>
      rw [ssuComplete_none hu re]
      obtain ⟨same, tdre, tend, rdrf, -⟩ := flagsSet_full hu (m := u.flagsSet) (fun _ _ => rfl) rfl
      exact ⟨⟨same.trans tdr, tdre, tend, nofun, fun _ => ⟨rdrf, nofun, fun _ =>
        three.trans (State.keepsBut_setBit _ _ _ (by simp))⟩⟩, fun _ => nofun⟩
    | some b =>
      rw [ssuComplete_some hu re]
      obtain ⟨same, tdre, tend, rdrf, rdr⟩ := flagsSet_full hu (m := u.flagsSet.rawSet u.cfg.io.ssuRdr b)
        (fun x hx => by rw [State.raw_rawSet, if_neg hx]) rfl
      have got : (u.flagsSet.rawSet u.cfg.io.ssuRdr b).raw u.cfg.io.ssuRdr = b := by rw [State.raw_rawSet, if_pos rfl]
      refine ⟨⟨same.trans tdr, tdre, tend, nofun, fun _ => ⟨rdrf, fun _ => ?_, fun h => absurd rfl h⟩⟩, ?_⟩
      · exact ((three.mono (by simp) (List.Subset.refl _)).trans (State.keepsBut_rawSet _ _ _ (by simp))).trans
          (State.keepsBut_setBit _ _ _ (by simp))
      · rintro - b' h
        obtain rfl := Option.some.inj h
        exact rdr.trans got

/-- What was not sent back leaves SSU_RDR. -/
theorem taken.rdr {t : State} {answers : Prop} (hv : s.cfg.valid = true) (h : taken s t tx combined answers)
    (silent : combined = true → ¬ answers) : t.raw s.cfg.io.ssuRdr = s.raw s.cfg.io.ssuRdr := by
  obtain ⟨-, -, -, alone, both⟩ := h
  have apart := Config.byte_ne_byte hv 44 43 (by decide) (a := s.cfg.io.ssuRdr) (b := s.cfg.io.ssuTdr) rfl rfl
  have tdre := Config.byte_ne_bit hv 44 22 (by decide) (a := s.cfg.io.ssuRdr) (f := s.cfg.io.ssuTdre) rfl rfl
  have tend := Config.byte_ne_bit hv 44 24 (by decide) (a := s.cfg.io.ssuRdr) (f := s.cfg.io.ssuTend) rfl rfl
  have rdrf := Config.byte_ne_bit hv 44 23 (by decide) (a := s.cfg.io.ssuRdr) (f := s.cfg.io.ssuRdrf) rfl rfl
  cases combined with
  | false => exact (alone rfl).1 _ (by simpa using apart) (by simpa using ⟨tdre, tend⟩)
  | true => exact ((both rfl).2.2 (silent rfl)).1 _ (by simpa using apart) (by simpa using ⟨tdre, tend, rdrf⟩)

theorem taken.congr {t : State} {answers answers' : Prop} (h : taken s t tx combined answers)
    (iff : combined = true → (answers ↔ answers')) : taken s t tx combined answers' := by
  obtain ⟨tdr, tdre, tend, alone, both⟩ := h
  refine ⟨tdr, tdre, tend, alone, fun on => ?_⟩
  rw [← iff on]
  exact both on

/-- How a tick with a byte pending ends: with the transfer's end if a device took the byte (rule R1232). -/
theorem ends_facts {w t : State} {d : Bool} {rx : Option Byte} (hv : w.cfg.valid = true) (pending : w.ssuPending)
    (cfg : u.cfg = w.cfg) (mem : u.mem = w.mem) (re : w.bit w.cfg.io.ssuRe = combined)
    (ht : t = if d then u.ssuComplete rx else u) :
    u.keepsAllButMem t ∧ t.bit w.cfg.io.ssuTdre = d ∧ (d = false → t.mem = w.mem)
      ∧ (d = true → taken w t (w.raw w.cfg.io.ssuTdr) combined (rx.isSome = true))
      ∧ (combined = true → d = true → ∀ b, rx = some b → t.raw w.cfg.io.ssuRdr = b)
      ∧ (rx = none → t.raw w.cfg.io.ssuRdr = w.raw w.cfg.io.ssuRdr) := by
  have raws : ∀ x, u.raw x = w.raw x := fun x => congrArg (Memory.byte · x) mem
  cases d with
  | false =>
    obtain rfl : t = u := ht
    exact ⟨.refl t, (State.bit_congr _ (raws _)).trans pending.2, fun _ => mem, nofun, fun _ => nofun,
      fun _ => raws _⟩
  | true =>
    obtain rfl : t = u.ssuComplete rx := ht
    have kept : w.keepsBut u [w.cfg.io.ssuTdr] [w.cfg.io.ssuTdre, w.cfg.io.ssuTend] :=
      (State.keepsBut.refl w _ _).congr mem
    obtain ⟨done, got⟩ := ssuComplete_taken hv cfg kept (raws _) ((State.bit_congr _ (raws _)).trans re) rx
    refine ⟨ssuComplete_frame u rx, done.2.1, nofun, fun _ => done, fun on _ => got on, fun silent => ?_⟩
    exact done.rdr hv (by simp [silent])

end

/-! ### A device that is not selected, and when a device sends a byte back -/

section
variable {s : State} {tx : Byte} {d : Bool} {r : Option Byte} {t : State}

theorem accelPart_off (h : s.selected s.cfg.io.csAccel s.cfg.csAccelActive = false) :
    s.accelPart tx = .ok (false, none, s) := by
  rw [State.accelPart, if_neg (by simp [h])]

theorem eepPart_off (h : s.selected s.cfg.io.csEeprom s.cfg.csEepromActive = false) :
    s.eepPart tx = (false, none, s) := by
  rw [State.eepPart, if_neg (by simp [h])]

theorem lcdPart_off (h : s.bit s.cfg.io.ssuRe = true
    ∨ s.dcAsserted = false ∧ s.selected s.cfg.io.csLcd s.cfg.csLcdActive = false) : s.lcdPart tx = .ok (false, s) := by
  obtain re | ⟨dc, cs⟩ := h
  · exact if_pos re
  · have idle : s.ssuLcd tx = .ok (false, s) := by simp only [State.ssuLcd, dc, cs, Bool.false_eq_true, if_false]
    rw [State.lcdPart, idle, ite_self]

theorem ssuMode_combined (h : s.bit s.cfg.io.ssuRe = true) : s.ssuMode = .combined := if_pos h

/-! What the accelerometer does with a byte (rule R1244). -/

theorem accelByte_address_combined (h : s.acc.state = .waiting) :
    s.accelByte .combined tx none = .ok (none, { s with acc := ⟨.data, tx &&& 0x0F, 0⟩ }) := by
  simp only [State.accelByte, h]

theorem accelByte_address_txonly (h : s.acc.state = .waiting) :
    s.accelByte .txonly tx none = .ok (none, { s with acc := ⟨.data, tx, 0⟩ }) := by
  simp only [State.accelByte, h]

theorem accelByte_past (mode : SsuMode) (h : s.acc.state = .data) (past : s.cfg.accelSize ≤ s.acc.index) :
    s.accelByte mode tx none = .error (.accelOverrun s.acc.index) := by
  simp only [State.accelByte, h, if_pos past]

theorem accelByte_read (h : s.acc.state = .data) (within : ¬ s.cfg.accelSize ≤ s.acc.index) :
    s.accelByte .combined tx none
      = .ok (some (s.accMem.getD s.acc.index 0), { s with acc := { s.acc with offset := s.acc.offset + 1 } }) := by
  simp only [State.accelByte, h, if_neg within]

theorem accelByte_write (h : s.acc.state = .data) (within : ¬ s.cfg.accelSize ≤ s.acc.index) :
    s.accelByte .txonly tx none = .ok (none, { s with accMem := s.accMem.set s.acc.index tx,
                                                      acc := { s.acc with offset := s.acc.offset + 1 } }) := by
  simp only [State.accelByte, h, if_neg within]

/-- In combined mode the accelerometer sends a byte back in its data state only. -/
theorem accelByte_answers (h : s.accelByte .combined tx none = .ok (r, t)) : r.isSome = true ↔ s.acc.state = .data := by
  cases hs : s.acc.state with
  | waiting =>
    rw [accelByte_address_combined hs] at h
    obtain ⟨rfl, -⟩ := Prod.mk.inj (Except.ok.inj h)
    exact iff_of_false nofun nofun
  | data =>
    by_cases past : s.cfg.accelSize ≤ s.acc.index
    · rw [accelByte_past _ hs past] at h
      exact nomatch h
    · rw [accelByte_read hs past] at h
      obtain ⟨rfl, -⟩ := Prod.mk.inj (Except.ok.inj h)
      exact iff_of_true rfl rfl

theorem accelPart_on (on : s.selected s.cfg.io.csAccel s.cfg.csAccelActive = true) :
    s.accelPart tx = (s.accelByte s.ssuMode tx none).map (true, ·) := if_pos on

theorem accelPart_answers (re : s.bit s.cfg.io.ssuRe = true) (h : s.accelPart tx = .ok (d, r, t)) :
    (r.isSome = true ↔ s.accelAnswers) ∧ (r.isSome = true → d = true) := by
  unfold State.accelAnswers
  cases on : s.selected s.cfg.io.csAccel s.cfg.csAccelActive with
  | false =>
    rw [accelPart_off on] at h
    obtain ⟨-, rfl, -⟩ : false = d ∧ none = r ∧ s = t := by simpa [Prod.ext_iff] using h
    exact ⟨iff_of_false nofun nofun, nofun⟩
  | true =>
    rw [accelPart_on on, ssuMode_combined re] at h
    cases byte : s.accelByte .combined tx none with
    | error k => rw [byte] at h; exact nomatch h
    | ok q =>
      rw [byte] at h
      obtain ⟨rfl, rfl, rfl⟩ : true = d ∧ q.1 = r ∧ q.2 = t := by simpa [Except.map, Prod.ext_iff] using h
      exact ⟨by rw [accelByte_answers byte, eq_self, true_and], fun _ => rfl⟩

/-! What the EEPROM does with a byte (rule R1241). -/

section
variable (mode : SsuMode)

theorem eepByte_waiting (h : s.eep.state = .waiting) : s.eepByte mode tx none = (none, s.eepCommand tx) := by
  simp only [State.eepByte, h]

theorem eepByte_addrHigh (h : s.eep.state = .addrHigh) : s.eepByte mode tx none
    = (none, { s with eep := { s.eep with address := tx ++ s.eep.address.extractLsb' 0 8, state := .addrLow } }) := by
  simp only [State.eepByte, h]

theorem eepByte_addrLow (h : s.eep.state = .addrLow) : s.eepByte mode tx none
    = (none, { s with eep := { s.eep with address := s.eep.address.extractLsb' 8 8 ++ tx, offset := 0,
                                          state := if s.eep.kind = .read then .readData else .writeData } }) := by
  simp only [State.eepByte, h]
  cases s.eep.kind <;> rfl

theorem eepByte_readData (h : s.eep.state = .readData) : s.eepByte mode tx none
    = (if mode = .combined then some (s.eepMem.read eepErased s.eep.readAddr.toNat) else none,
        { s with eep := { s.eep with offset := s.eep.offset + 1 } }) := by
  simp only [State.eepByte, h]
  cases mode <;> rfl

theorem eepByte_writeData (h : s.eep.state = .writeData) : s.eepByte mode tx none
    = (none, { s with eepMem := s.eepMem.write eepErased s.eep.writeAddr.toNat tx,
                      eep := { s.eep with offset := s.eep.offset + 1 } }) := by
  simp only [State.eepByte, h]

theorem eepByte_readStatus (h : s.eep.state = .readStatus) : s.eepByte mode tx none
    = (if mode = .combined then some s.eep.status else none, s) := by
  simp only [State.eepByte, h]
  cases mode <;> rfl

end

/-- In combined mode the EEPROM sends a byte back in its read states only. -/
theorem eepByte_answers :
    (s.eepByte .combined tx none).1.isSome = true ↔ s.eep.state = .readData ∨ s.eep.state = .readStatus := by
  cases hs : s.eep.state with
  | waiting => simp [eepByte_waiting _ hs]
  | addrHigh => simp [eepByte_addrHigh _ hs]
  | addrLow => simp [eepByte_addrLow _ hs]
  | readData => simp [eepByte_readData _ hs]
  | writeData => simp [eepByte_writeData _ hs]
  | readStatus => simp [eepByte_readStatus _ hs]

theorem eepPart_on (on : s.selected s.cfg.io.csEeprom s.cfg.csEepromActive = true) :
    s.eepPart tx = s.eepCycle s.ssuMode tx none := if_pos on

theorem eepPart_answers (re : s.bit s.cfg.io.ssuRe = true) (h : s.eepPart tx = (d, r, t)) :
    (r.isSome = true ↔ s.eepromAnswers) ∧ (r.isSome = true → d = true) := by
  unfold State.eepromAnswers
  cases on : s.selected s.cfg.io.csEeprom s.cfg.csEepromActive with
  | false =>
    rw [eepPart_off on] at h
    obtain ⟨-, rfl, -⟩ : false = d ∧ none = r ∧ s = t := by simpa [Prod.ext_iff] using h
    exact ⟨iff_of_false nofun nofun, nofun⟩
  | true =>
    rw [eepPart_on on, ssuMode_combined re] at h
    by_cases boundary : s.eep.progress = 6
    · rw [eepCycle_boundary _ tx boundary] at h
      obtain ⟨rfl, rfl⟩ : true = d ∧ ({ s with eep := { s.eep with progress := 0 } }.eepByte .combined tx none).1 = r :=
        ⟨congrArg Prod.fst h, congrArg (·.2.1) h⟩
      refine ⟨eepByte_answers.trans ?_, fun _ => rfl⟩
      simp only [true_and, boundary]
    · rw [eepCycle_within _ tx boundary] at h
      obtain ⟨-, rfl⟩ : false = d ∧ none = r := ⟨congrArg Prod.fst h, congrArg (·.2.1) h⟩
      exact ⟨iff_of_false nofun fun answers => boundary answers.2.1, nofun⟩

end

end Sys2Proof.Machine
end

section
/-! SUPPORT. A tick with any devices selected: each device does what it does alone. From these, the statement on
the SSU's selects. -/

namespace Sys2Proof.Machine
set_option Elab.async false

/-! ### A tick with a byte pending -/

section
variable {s t : State} {combined : Bool} {dA dE dL : Bool} {rA rE : Option Byte} {sA sE sL : State}

theorem ssuTick_facts (hv : s.cfg.valid = true) (pending : s.ssuPending) (re : s.bit s.cfg.io.ssuRe = combined)
    (hA : s.accelPart (s.raw s.cfg.io.ssuTdr) = .ok (dA, rA, sA))
    (hE : s.eepPart (s.raw s.cfg.io.ssuTdr) = (dE, rE, sE)) (hL : s.lcdPart (s.raw s.cfg.io.ssuTdr) = .ok (dL, sL))
    (ht : t = s.ssuTick) :
    (s.served sA sE sL).keepsAllButMem t ∧ t.bit s.cfg.io.ssuTdre = (dA || dE || dL)
      ∧ ((dA || dE || dL) = false → t.mem = s.mem)
      ∧ ((dA || dE || dL) = true → taken s t (s.raw s.cfg.io.ssuTdr) combined ((rE.or rA).isSome = true))
      ∧ (combined = true → (dA || dE || dL) = true → ∀ b, rE.or rA = some b → t.raw s.cfg.io.ssuRdr = b)
      ∧ (combined = true → rE.or rA = none → t.raw s.cfg.io.ssuRdr = s.raw s.cfg.io.ssuRdr) := by
  have ends := ends_facts (u := s.served sA sE sL) (rx := s.received rE rA) (t := t) hv pending rfl rfl re
    (ht.trans (ssuTick_of_ok _ pending rfl hA hE hL))
  have received : combined = true → s.received rE rA = rE.or rA := fun on => if_pos (re.trans on)
  obtain ⟨frame, tdre, idle, done, got, silent⟩ := ends
  refine ⟨frame, tdre, idle, fun d => (done d).congr fun on => by rw [received on], fun on d b h => ?_, fun on h => ?_⟩
  · exact got on d b ((received on).trans h)
  · exact silent ((received on).trans h)

end

/-! ### The same state with devices deselected -/

/-- `w` is `s` but for select bits: the SSU's control bits and its data registers are those of `s`. -/
def State.sameControl (s w : State) : Prop :=
  s.keepsAllButMem w ∧ w.bit s.cfg.io.ssuTe = s.bit s.cfg.io.ssuTe ∧ w.bit s.cfg.io.ssuTdre = s.bit s.cfg.io.ssuTdre
    ∧ w.bit s.cfg.io.ssuRe = s.bit s.cfg.io.ssuRe ∧ w.raw s.cfg.io.ssuTdr = s.raw s.cfg.io.ssuTdr
    ∧ w.raw s.cfg.io.ssuRdr = s.raw s.cfg.io.ssuRdr

section
variable {s w : State}

theorem State.sameControl.cfg (h : s.sameControl w) : w.cfg = s.cfg := by
  have frame := h.1
  unfold State.keepsAllButMem at frame
  rw [frame]

theorem State.sameControl.trans {m : State} (h₁ : s.sameControl m) (h₂ : m.sameControl w) : s.sameControl w := by
  have cfg := h₁.cfg
  obtain ⟨frame, te, tdre, re, tdr, rdr⟩ := h₁
  obtain ⟨frame', te', tdre', re', tdr', rdr'⟩ := h₂
  rw [cfg] at te' tdre' re' tdr' rdr'
  exact ⟨frame.trans frame', te'.trans te, tdre'.trans tdre, re'.trans re, tdr'.trans tdr, rdr'.trans rdr⟩

theorem State.sameControl.setBit (hv : s.cfg.valid = true) (i : Nat) (hi : 25 ≤ i) (hi' : i < 29) {f : BitLoc}
    (hf : s.cfg.io.otherPieces[i]? = some f.piece) (v : Bool) : s.sameControl (s.setBit f v) := by
  have bit : ∀ (j : Nat) (g : BitLoc), j < 25 → s.cfg.io.otherPieces[j]? = some g.piece →
      (s.setBit f v).bit g = s.bit g := fun j g hj hg =>
    State.bit_setBit_of_disjoint s v (Config.bits_disjoint hv i j (by omega) hf hg)
  have raw : ∀ (j : Nat) (a : Addr), 38 ≤ j → s.cfg.io.otherPieces[j]? = some (a, 0xFF#8) →
      (s.setBit f v).raw a = s.raw a := fun j a hj ha => by
    rw [State.raw_setBit, if_neg (Config.byte_ne_bit hv j i (by omega) ha hf)]
  exact ⟨.setBit .., bit 20 _ (by decide) rfl, bit 22 _ (by decide) rfl, bit 21 _ (by decide) rfl,
    raw 43 _ (by decide) rfl, raw 44 _ (by decide) rfl⟩

theorem selected_setBit_not (cs : BitLoc) (active : Bool) : (s.setBit cs (!active)).selected cs active = false := by
  rw [State.selected, State.bit_setBit_self]
  cases active <;> rfl

/-- A select bit made inactive leaves the others. -/
theorem bit_setBit_of_places (hv : s.cfg.valid = true) (i j : Nat) (hij : i ≠ j) {f g : BitLoc}
    (hf : s.cfg.io.otherPieces[i]? = some f.piece) (hg : s.cfg.io.otherPieces[j]? = some g.piece) (u : State)
    (v : Bool) :
    (u.setBit f v).bit g = u.bit g :=
  State.bit_setBit_of_disjoint u v (Config.bits_disjoint hv i j hij hf hg)

variable (hv : s.cfg.valid = true)
include hv

theorem offAccel_facts : s.sameControl s.offAccel ∧ s.offAccel.bit s.cfg.io.csEeprom = s.bit s.cfg.io.csEeprom
    ∧ s.offAccel.bit s.cfg.io.csLcd = s.bit s.cfg.io.csLcd ∧ s.offAccel.bit s.cfg.io.lcdDc = s.bit s.cfg.io.lcdDc
    ∧ s.offAccel.selected s.cfg.io.csAccel s.cfg.csAccelActive = false :=
  ⟨.setBit hv 26 (by decide) (by decide) rfl _, bit_setBit_of_places hv 26 25 (by decide) rfl rfl _ _,
    bit_setBit_of_places hv 26 27 (by decide) rfl rfl _ _, bit_setBit_of_places hv 26 28 (by decide) rfl rfl _ _,
    selected_setBit_not ..⟩

theorem offEeprom_facts : s.sameControl s.offEeprom ∧ s.offEeprom.bit s.cfg.io.csAccel = s.bit s.cfg.io.csAccel
    ∧ s.offEeprom.bit s.cfg.io.csLcd = s.bit s.cfg.io.csLcd ∧ s.offEeprom.bit s.cfg.io.lcdDc = s.bit s.cfg.io.lcdDc
    ∧ s.offEeprom.selected s.cfg.io.csEeprom s.cfg.csEepromActive = false :=
  ⟨.setBit hv 25 (by decide) (by decide) rfl _, bit_setBit_of_places hv 25 26 (by decide) rfl rfl _ _,
    bit_setBit_of_places hv 25 27 (by decide) rfl rfl _ _, bit_setBit_of_places hv 25 28 (by decide) rfl rfl _ _,
    selected_setBit_not ..⟩

theorem offLcd_facts : s.sameControl s.offLcd ∧ s.offLcd.bit s.cfg.io.csAccel = s.bit s.cfg.io.csAccel
    ∧ s.offLcd.bit s.cfg.io.csEeprom = s.bit s.cfg.io.csEeprom ∧ s.offLcd.dcAsserted = false
    ∧ s.offLcd.selected s.cfg.io.csLcd s.cfg.csLcdActive = false := by
  have dcKeeps : ∀ (j : Nat) (g : BitLoc), j ≠ 28 → s.cfg.io.otherPieces[j]? = some g.piece →
      s.offLcd.bit g = (s.setBit s.cfg.io.csLcd (!s.cfg.csLcdActive)).bit g := fun j g hj hg =>
    bit_setBit_of_places hv 28 j (Ne.symm hj) rfl hg _ _
  refine ⟨(State.sameControl.setBit hv 27 (by decide) (by decide) rfl _).trans
      (.setBit (s := s.setBit s.cfg.io.csLcd (!s.cfg.csLcdActive)) hv 28 (by decide) (by decide) rfl _), ?_, ?_,
    selected_setBit_not .., ?_⟩
  · exact (dcKeeps 26 _ (by decide) rfl).trans (bit_setBit_of_places hv 27 26 (by decide) rfl rfl _ _)
  · exact (dcKeeps 25 _ (by decide) rfl).trans (bit_setBit_of_places hv 27 25 (by decide) rfl rfl _ _)
  · exact (selected_congr _ (dcKeeps 27 _ (by decide) rfl)).trans (selected_setBit_not ..)

/-- The state with the accelerometer alone left on. -/
theorem accelAlone (hw : w = s.offEeprom.offLcd) :
    s.sameControl w ∧ w.bit s.cfg.io.csAccel = s.bit s.cfg.io.csAccel
      ∧ w.selected s.cfg.io.csEeprom s.cfg.csEepromActive = false ∧ w.dcAsserted = false
      ∧ w.selected s.cfg.io.csLcd s.cfg.csLcdActive = false := by
  obtain ⟨control, accel, -, -, off⟩ := offEeprom_facts hv
  obtain ⟨control', accel', eeprom', dc, lcd⟩ := offLcd_facts (s := s.offEeprom) hv
  rw [hw]
  exact ⟨control.trans control', accel'.trans accel, (selected_congr _ eeprom').trans off, dc, lcd⟩

/-- The state with the EEPROM alone left on. -/
theorem eepromAlone (hw : w = s.offAccel.offLcd) :
    s.sameControl w ∧ w.bit s.cfg.io.csEeprom = s.bit s.cfg.io.csEeprom
      ∧ w.selected s.cfg.io.csAccel s.cfg.csAccelActive = false ∧ w.dcAsserted = false
      ∧ w.selected s.cfg.io.csLcd s.cfg.csLcdActive = false := by
  obtain ⟨control, eeprom, -, -, off⟩ := offAccel_facts hv
  obtain ⟨control', accel', eeprom', dc, lcd⟩ := offLcd_facts (s := s.offAccel) hv
  rw [hw]
  exact ⟨control.trans control', eeprom'.trans eeprom, (selected_congr _ accel').trans off, dc, lcd⟩

/-- The state with the LCD controller alone left on. -/
theorem lcdAlone (hw : w = s.offAccel.offEeprom) :
    s.sameControl w ∧ w.bit s.cfg.io.csLcd = s.bit s.cfg.io.csLcd ∧ w.bit s.cfg.io.lcdDc = s.bit s.cfg.io.lcdDc
      ∧ w.selected s.cfg.io.csAccel s.cfg.csAccelActive = false
      ∧ w.selected s.cfg.io.csEeprom s.cfg.csEepromActive = false := by
  obtain ⟨control, -, lcd, dc, off⟩ := offAccel_facts hv
  obtain ⟨control', accel', lcd', dc', off'⟩ := offEeprom_facts (s := s.offAccel) hv
  rw [hw]
  exact ⟨control.trans control', lcd'.trans lcd, dc'.trans dc, (selected_congr _ accel').trans off, off'⟩

end

/-! ### The tick with one device left on -/

section
variable {s w t : State}

theorem State.sameControl.pending (h : s.sameControl w) (pending : s.ssuPending) : w.ssuPending := by
  have cfg := h.cfg
  obtain ⟨-, te, tdre, -⟩ := h
  obtain ⟨on, empty⟩ := pending
  rw [State.ssuPending, cfg]
  exact ⟨te.trans on, tdre.trans empty⟩

theorem State.sameControl.sees (h : s.sameControl w) : w.seesAcc s ∧ w.seesEep s ∧ w.seesLcd s := by
  have frame := h.1
  unfold State.keepsAllButMem at frame
  rw [frame]
  exact ⟨⟨rfl, rfl, rfl⟩, ⟨rfl, rfl, rfl, rfl⟩, rfl, rfl, rfl⟩

variable {combined : Bool} {dA dE dL : Bool} {rA rE : Option Byte} {sA sE sL : State} {k : FaultKind}

/-- A fault tells of the state without its memory. -/
theorem State.sameControl.raise_fault (h : s.sameControl w) (k : FaultKind) :
    (w.raise k none).fault = (s.raise k none).fault := by
  have frame := h.1
  unfold State.keepsAllButMem at frame
  rw [frame]
  rfl

variable (hv : s.cfg.valid = true) (pending : s.ssuPending) (re : s.bit s.cfg.io.ssuRe = combined)
  (control : s.sameControl w)
include hv pending re control

/-- A tick of `w`, by the parts of `w`, in the terms of `s`. -/
theorem State.sameControl.tick (ht : t = w.ssuTick) (hA : w.accelPart (s.raw s.cfg.io.ssuTdr) = .ok (dA, rA, sA))
    (hE : w.eepPart (s.raw s.cfg.io.ssuTdr) = (dE, rE, sE)) (hL : w.lcdPart (s.raw s.cfg.io.ssuTdr) = .ok (dL, sL)) :
    (w.served sA sE sL).keepsAllButMem t ∧ t.bit s.cfg.io.ssuTdre = (dA || dE || dL)
      ∧ (combined = true → (dA || dE || dL) = true → ∀ b, rE.or rA = some b → t.raw s.cfg.io.ssuRdr = b)
      ∧ (combined = true → rE.or rA = none → t.raw s.cfg.io.ssuRdr = s.raw s.cfg.io.ssuRdr) := by
  have cfg := control.cfg
  have pending' := control.pending pending
  obtain ⟨-, -, -, re', tdr, rdr⟩ := control
  rw [← tdr, ← cfg] at hA hE hL
  obtain ⟨frame, tdre, -, -, got, silent⟩ := ssuTick_facts (s := w) (combined := combined) (by rwa [cfg]) pending'
    (by rw [cfg]; exact re'.trans re) hA hE hL ht
  rw [cfg] at tdre got silent
  rw [rdr] at silent
  exact ⟨frame, tdre, got, silent⟩

omit hv re in
theorem State.sameControl.tick_error (ht : t = w.ssuTick) (h : w.ssuServe (s.raw s.cfg.io.ssuTdr) = .error k) :
    t.fault = (s.raise k none).fault := by
  have tdr : w.raw w.cfg.io.ssuTdr = s.raw s.cfg.io.ssuTdr := by rw [control.cfg]; exact control.2.2.2.2.1
  rw [ht, ssuTick_of_error _ (control.pending pending) tdr h, control.raise_fault]

/-- The accelerometer alone. -/
theorem accelAlone_tick (cs : w.bit s.cfg.io.csAccel = s.bit s.cfg.io.csAccel)
    (eeprom : w.selected s.cfg.io.csEeprom s.cfg.csEepromActive = false)
    (lcd : w.dcAsserted = false ∧ w.selected s.cfg.io.csLcd s.cfg.csLcdActive = false) (ht : t = w.ssuTick) :
    (∀ k, s.accelPart (s.raw s.cfg.io.ssuTdr) = .error k → t.fault = (s.raise k none).fault)
      ∧ (∀ d r u, s.accelPart (s.raw s.cfg.io.ssuTdr) = .ok (d, r, u) →
        t.fault = s.fault ∧ t.acc = u.acc ∧ t.accMem = u.accMem ∧ t.bit s.cfg.io.ssuTdre = d
          ∧ (combined = true → d = true → ∀ b, r = some b → t.raw s.cfg.io.ssuRdr = b)
          ∧ (combined = true → r = none → t.raw s.cfg.io.ssuRdr = s.raw s.cfg.io.ssuRdr)) := by
  have part := accelPart_congr (s.raw s.cfg.io.ssuTdr) control.sees.1 control.2.2.2.1 cs
  have cfg := control.cfg
  have fault : w.fault = s.fault := by
    have frame := control.1
    unfold State.keepsAllButMem at frame
    rw [frame]
  have hE : w.eepPart (s.raw s.cfg.io.ssuTdr) = (false, none, w) := eepPart_off (by rwa [cfg])
  have hL : w.lcdPart (s.raw s.cfg.io.ssuTdr) = .ok (false, w) := lcdPart_off (.inr (by rwa [cfg]))
  refine ⟨fun k h => ?_, fun d r u h => ?_⟩
  · rw [h] at part
    exact control.tick_error pending ht (ssuServe_of_accel_error _ part)
  · rw [h] at part
    obtain ⟨frame, tdre, got, silent⟩ := control.tick hv pending re ht part hE hL
    unfold State.keepsAllButMem at frame
    rw [Bool.or_false, Bool.or_false] at tdre
    rw [Bool.or_false, Bool.or_false] at got
    refine ⟨?_, ?_, ?_, tdre, got, silent⟩
    · rw [frame]; exact fault
    · rw [frame]; rfl
    · rw [frame]; rfl

/-- The EEPROM alone. -/
theorem eepromAlone_tick (cs : w.bit s.cfg.io.csEeprom = s.bit s.cfg.io.csEeprom)
    (accel : w.selected s.cfg.io.csAccel s.cfg.csAccelActive = false)
    (lcd : w.dcAsserted = false ∧ w.selected s.cfg.io.csLcd s.cfg.csLcdActive = false) (ht : t = w.ssuTick) :
    ∀ d r u, s.eepPart (s.raw s.cfg.io.ssuTdr) = (d, r, u) →
      t.fault = s.fault ∧ t.eep = u.eep ∧ t.eepMem = u.eepMem ∧ t.out = u.out ∧ t.bit s.cfg.io.ssuTdre = d
        ∧ (combined = true → d = true → ∀ b, r = some b → t.raw s.cfg.io.ssuRdr = b) := by
  have part := eepPart_congr (s.raw s.cfg.io.ssuTdr) control.sees.2.1 control.2.2.2.1 cs
  have cfg := control.cfg
  have fault : w.fault = s.fault := by
    have frame := control.1
    unfold State.keepsAllButMem at frame
    rw [frame]
  have hA : w.accelPart (s.raw s.cfg.io.ssuTdr) = .ok (false, none, w) := accelPart_off (by rwa [cfg])
  have hL : w.lcdPart (s.raw s.cfg.io.ssuTdr) = .ok (false, w) := lcdPart_off (.inr (by rwa [cfg]))
  intro d r u h
  rw [h] at part
  obtain ⟨frame, tdre, got, -⟩ := control.tick hv pending re ht hA part hL
  unfold State.keepsAllButMem at frame
  rw [Bool.or_false, Bool.false_or] at tdre
  rw [Bool.or_false, Bool.false_or, Option.or_none] at got
  refine ⟨?_, ?_, ?_, ?_, tdre, got⟩
  · rw [frame]; exact fault
  · rw [frame]; rfl
  · rw [frame]; rfl
  · rw [frame]; rfl

/-- The LCD controller alone. -/
theorem lcdAlone_tick (cs : w.bit s.cfg.io.csLcd = s.bit s.cfg.io.csLcd)
    (dc : w.bit s.cfg.io.lcdDc = s.bit s.cfg.io.lcdDc)
    (accel : w.selected s.cfg.io.csAccel s.cfg.csAccelActive = false)
    (eeprom : w.selected s.cfg.io.csEeprom s.cfg.csEepromActive = false) (ht : t = w.ssuTick) :
    (∀ k, s.lcdPart (s.raw s.cfg.io.ssuTdr) = .error k → t.fault = (s.raise k none).fault)
      ∧ (∀ d u, s.lcdPart (s.raw s.cfg.io.ssuTdr) = .ok (d, u) →
        t.fault = s.fault ∧ t.lcd = u.lcd ∧ t.fb = u.fb ∧ t.bit s.cfg.io.ssuTdre = d) := by
  have part := lcdPart_congr (s.raw s.cfg.io.ssuTdr) control.sees.2.2 control.2.2.2.1 dc cs
  have cfg := control.cfg
  have fault : w.fault = s.fault := by
    have frame := control.1
    unfold State.keepsAllButMem at frame
    rw [frame]
  have hA : w.accelPart (s.raw s.cfg.io.ssuTdr) = .ok (false, none, w) := accelPart_off (by rwa [cfg])
  have hE : w.eepPart (s.raw s.cfg.io.ssuTdr) = (false, none, w) := eepPart_off (by rwa [cfg])
  refine ⟨fun k h => ?_, fun d u h => ?_⟩
  · rw [h] at part
    exact control.tick_error pending ht (ssuServe_of_lcd_error _ hA part)
  · rw [h] at part
    obtain ⟨frame, tdre, -, -⟩ := control.tick hv pending re ht hA hE part
    unfold State.keepsAllButMem at frame
    rw [Bool.or_false, Bool.false_or] at tdre
    refine ⟨?_, ?_, ?_, tdre⟩
    · rw [frame]; exact fault
    · rw [frame]; rfl
    · rw [frame]; rfl

end

/-! ### The tick that does nothing -/

section
variable {s : State}

theorem ssuTick_off (te : s.bit s.cfg.io.ssuTe = false) : s.ssuTick = s.setBit s.cfg.io.ssuTdre true := by
  simp only [State.ssuTick, te, Bool.not_false, if_true]

theorem ssuTick_empty (te : s.bit s.cfg.io.ssuTe = true) (tdre : s.bit s.cfg.io.ssuTdre = true) : s.ssuTick = s := by
  simp only [State.ssuTick, te, tdre, Bool.not_true, Bool.false_eq_true, if_false, if_true]

theorem ssuTick_unselected (te : s.bit s.cfg.io.ssuTe = true)
    (accel : s.selected s.cfg.io.csAccel s.cfg.csAccelActive = false)
    (eeprom : s.selected s.cfg.io.csEeprom s.cfg.csEepromActive = false)
    (lcd : s.bit s.cfg.io.ssuRe = true ∨ s.dcAsserted = false ∧ s.selected s.cfg.io.csLcd s.cfg.csLcdActive = false) :
    s.ssuTick = s := by
  cases tdre : s.bit s.cfg.io.ssuTdre with
  | true => exact ssuTick_empty te tdre
  | false => exact ssuTick_of_ok _ ⟨te, tdre⟩ rfl (accelPart_off accel) (eepPart_off eeprom) (lcdPart_off lcd)

end

/-- Settles O57: the parts of the tick, and each part in the tick of the device alone. -/
theorem ssuIdlesAndServesEverySelect : Obligations.SsuIdlesAndServesEverySelect := by
  refine ⟨fun s => ⟨ssuTick_off, ssuTick_empty, ssuTick_unselected⟩, ?_⟩
  intro s t a e l combined hv running pending re ht ha he hl
  obtain ⟨control, cs, eeprom, lcd⟩ := accelAlone hv (w := s.offEeprom.offLcd) rfl
  obtain ⟨accelError, accelOk⟩ := accelAlone_tick hv pending re control cs eeprom lcd ha
  obtain ⟨control, cs, accel, lcd⟩ := eepromAlone hv (w := s.offAccel.offLcd) rfl
  have eepOk := eepromAlone_tick hv pending re control cs accel lcd he
  obtain ⟨control, cs, dc, accel, eeprom⟩ := lcdAlone hv (w := s.offAccel.offEeprom) rfl
  obtain ⟨lcdError, lcdOk⟩ := lcdAlone_tick hv pending re control cs dc accel eeprom hl
  clear control cs dc accel eeprom lcd
  rcases hE : s.eepPart (s.raw s.cfg.io.ssuTdr) with ⟨dE, rE, sE⟩
  obtain ⟨faultE, eep, eepMem, out, tdreE, gotE⟩ := eepOk _ _ _ hE
  refine ⟨faultE.trans running, fun faulted => ?_, fun fine faulted => ?_, fun fine fineL => ?_⟩
  · cases hA : s.accelPart (s.raw s.cfg.io.ssuTdr) with
    | ok r => exact absurd ((accelOk _ _ _ hA).1.trans running) faulted
    | error k =>
      rw [ht, ssuTick_of_error _ pending rfl (ssuServe_of_accel_error _ hA), accelError k hA]
      rfl
  · cases hA : s.accelPart (s.raw s.cfg.io.ssuTdr) with
    | error k => rw [accelError k hA] at fine; exact nomatch fine
    | ok r =>
      cases hL : s.lcdPart (s.raw s.cfg.io.ssuTdr) with
      | ok r => exact absurd ((lcdOk _ _ hL).1.trans running) faulted
      | error k =>
        rw [ht, ssuTick_of_error _ pending rfl (ssuServe_of_lcd_error _ hA hL), lcdError k hL]
        rfl
  · cases hA : s.accelPart (s.raw s.cfg.io.ssuTdr) with
    | error k => rw [accelError k hA] at fine; exact nomatch fine
    | ok r =>
      cases hL : s.lcdPart (s.raw s.cfg.io.ssuTdr) with
      | error k => rw [lcdError k hL] at fineL; exact nomatch fineL
      | ok q =>
        obtain ⟨dA, rA, sA⟩ := r
        obtain ⟨dL, sL⟩ := q
        obtain ⟨-, acc, accMem, tdreA, gotA, silentA⟩ := accelOk _ _ _ hA
        obtain ⟨-, lcd, fb, tdreL⟩ := lcdOk _ _ hL
        obtain ⟨frame, tdre, idle, done, got, silent⟩ := ssuTick_facts hv pending re hA hE hL ht
        rw [tdreA, tdreE, tdreL, acc, accMem, eep, eepMem, out, lcd, fb]
        refine ⟨frame, fun hA hE hL => idle (by simp [hA, hE, hL]), fun any => ?_, fun on answers => ?_,
          fun on silentE => ?_⟩
        · refine (done (by simpa [or_assoc] using any)).congr fun on => ?_
          rw [Option.isSome_or, Bool.or_eq_true, (eepPart_answers (re.trans on) hE).1,
            (accelPart_answers (re.trans on) hA).1, or_comm]
        · obtain ⟨sends, takes⟩ := eepPart_answers (re.trans on) hE
          obtain ⟨b, rfl⟩ := Option.isSome_iff_exists.1 (sends.2 answers)
          have dE' := takes rfl
          rw [got on (by simp [dE']) b rfl, gotE on dE' b rfl]
        · obtain ⟨sends, -⟩ := eepPart_answers (re.trans on) hE
          obtain rfl : rE = none := Option.not_isSome_iff_eq_none.1 fun some => silentE (sends.1 some)
          cases rA with
          | none => rw [silent on rfl, silentA on rfl]
          | some b =>
            have dA' := (accelPart_answers (re.trans on) hA).2 rfl
            rw [got on (by simp [dA']) b rfl, gotA on dA' b rfl]

end Sys2Proof.Machine
end

section
/-! SUPPORT. A byte that firmware has put into SSU_TDR, while the SSU serves one device; the EEPROM tick by tick. From
these, the statement on a byte sent to the EEPROM. -/

namespace Sys2Proof.Machine
set_option Elab.async false

/-! ### The pending byte (`60_exceptions.md` rules R1231, R1233) -/

section
variable {s u : State} {tx : Byte}

theorem stillPending_store (hv : s.cfg.valid = true) (tx : Byte) :
    stillPending s (s.store8 s.cfg.io.ssuTdr tx) tx ∧ s.keepsAllButMem (s.store8 s.cfg.io.ssuTdr tx) := by
  have tdre := Config.byte_ne_bit hv 43 22 (by decide) (a := s.cfg.io.ssuTdr) (f := s.cfg.io.ssuTdre) rfl rfl
  have tend := Config.byte_ne_bit hv 43 24 (by decide) (a := s.cfg.io.ssuTdr) (f := s.cfg.io.ssuTend) rfl rfl
  rw [State.store8_ssuTdr s tx hv]
  refine ⟨⟨?_, ?_, State.bit_setBit_self .., ?_⟩, .trans (.trans (.rawSet ..) (.setBit ..)) (.setBit ..)⟩
  · rw [State.raw_setBit, if_neg tend, State.raw_setBit, if_neg tdre, State.raw_rawSet, if_pos rfl]
  · rw [State.bit_setBit_of_disjoint _ _ (Config.bits_disjoint hv 24 22 (by decide) rfl rfl), State.bit_setBit_self]
  · exact ((State.keepsBut_rawSet s tx _ (by simp)).trans (State.keepsBut_setBit _ _ _ (by simp))).trans
      (State.keepsBut_setBit _ _ _ (by simp))

theorem stillPending.congr {t : State} (h : stillPending s u tx) (mem : t.mem = u.mem) : stillPending s t tx := by
  obtain ⟨tdr, tdre, tend, kept⟩ := h
  exact ⟨(congrArg (Memory.byte · _) mem).trans tdr, (State.bit_of_mem mem _).trans tdre,
    (State.bit_of_mem mem _).trans tend, kept.congr mem⟩

/-- A pending byte leaves the other bits of the layout. -/
theorem stillPending.bit (hv : s.cfg.valid = true) (h : stillPending s u tx) (i : Nat) (hi : i < 38) (h22 : i ≠ 22)
    (h24 : i ≠ 24) {f : BitLoc} (hf : s.cfg.io.otherPieces[i]? = some f.piece) : u.bit f = s.bit f := by
  refine h.2.2.2.2 f ?_ ?_
  · simpa using Ne.symm (Config.byte_ne_bit hv 43 i (by omega) rfl hf)
  · simpa using ⟨bit_ne_of_piece_disjoint (Config.bits_disjoint hv i 22 h22 hf rfl),
      bit_ne_of_piece_disjoint (Config.bits_disjoint hv i 24 h24 hf rfl)⟩

variable (hv : s.cfg.valid = true) (cfg : u.cfg = s.cfg) (h : stillPending s u tx)
include hv cfg h

theorem stillPending.ssuPending (te : s.bit s.cfg.io.ssuTe = true) : u.ssuPending := by
  rw [State.ssuPending, cfg]
  exact ⟨(h.bit hv 20 (by decide) (by decide) (by decide) rfl).trans te, h.2.1⟩

omit hv in
theorem stillPending.tdr : u.raw u.cfg.io.ssuTdr = tx := by
  rw [cfg]
  exact h.1

theorem stillPending.re {combined : Bool} (re : s.bit s.cfg.io.ssuRe = combined) : u.bit u.cfg.io.ssuRe = combined := by
  rw [cfg]
  exact (h.bit hv 21 (by decide) (by decide) (by decide) rfl).trans re

/-- The selects that a tick sees are those of before the byte was written. -/
theorem stillPending.selects :
    u.selected u.cfg.io.csEeprom u.cfg.csEepromActive = s.selected s.cfg.io.csEeprom s.cfg.csEepromActive
      ∧ u.selected u.cfg.io.csAccel u.cfg.csAccelActive = s.selected s.cfg.io.csAccel s.cfg.csAccelActive
      ∧ u.selected u.cfg.io.csLcd u.cfg.csLcdActive = s.selected s.cfg.io.csLcd s.cfg.csLcdActive
      ∧ u.dcAsserted = s.dcAsserted := by
  have bit : ∀ (i : Nat) (f : BitLoc), 25 ≤ i → i < 29 → s.cfg.io.otherPieces[i]? = some f.piece → u.bit f = s.bit f :=
    fun i f hi hi' hf => h.bit hv i (by omega) (by omega) (by omega) hf
  unfold State.dcAsserted
  rw [cfg]
  exact ⟨selected_congr _ (bit 25 _ (by decide) (by decide) rfl),
    selected_congr _ (bit 26 _ (by decide) (by decide) rfl), selected_congr _ (bit 27 _ (by decide) (by decide) rfl),
    selected_congr _ (bit 28 _ (by decide) (by decide) rfl)⟩

omit cfg in
/-- The end of the transfer of a pending byte, once a device has changed what is its own. -/
theorem stillPending.completed {v t : State} {combined : Bool} (re : s.bit s.cfg.io.ssuRe = combined)
    (mem : v.mem = u.mem) (cfg' : v.cfg = s.cfg) (rx : Option Byte) (ht : t = v.ssuComplete rx) :
    taken s t tx combined (rx.isSome = true) ∧ v.keepsAllButMem t
      ∧ (combined = true → ∀ b, rx = some b → t.raw s.cfg.io.ssuRdr = b) := by
  have h' := h.congr mem
  have re' := h'.re hv cfg' re
  rw [cfg'] at re'
  obtain ⟨done, got⟩ := ssuComplete_taken hv cfg' h'.2.2.2 h'.1 re' rx
  rw [ht]
  exact ⟨done, ssuComplete_frame v rx, got⟩

end

/-! ### A byte for the EEPROM (rules R1233, R1241) -/

/-- The mode of an SSU whose receive half is on or off. -/
def modeOf (combined : Bool) : SsuMode := if combined then .combined else .txonly

section
variable {s u : State} {tx : Byte} {combined : Bool}

theorem ssuMode_eq_modeOf (re : s.bit s.cfg.io.ssuRe = combined) : s.ssuMode = modeOf combined := by
  rw [State.ssuMode, re, modeOf]

/-- A tick of the SSU on to the EEPROM alone, with a byte pending, is the EEPROM's cycle and the end of the transfer. -/
theorem stillPending.eepromTick (hv : s.cfg.valid = true) (on : s.onEeprom combined) (cfg : u.cfg = s.cfg)
    (h : stillPending s u tx) :
    u.ssuTick = if (u.eepCycle (modeOf combined) tx none).1 then
        (u.withEep (u.eepCycle (modeOf combined) tx none).2.2).ssuComplete
          (u.received (u.eepCycle (modeOf combined) tx none).2.1 none)
      else u.withEep (u.eepCycle (modeOf combined) tx none).2.2 := by
  obtain ⟨te, re, eeprom, accel, lcd⟩ := on
  obtain ⟨eeprom', accel', lcd', dc'⟩ := h.selects hv cfg
  have re' := h.re hv cfg re
  have hL : u.lcdPart tx = .ok (false, u) := by
    cases combined with
    | true => exact lcdPart_off (.inl re')
    | false => exact lcdPart_off (.inr ⟨dc'.trans (lcd rfl).1, lcd'.trans (lcd rfl).2⟩)
  have hE := eepPart_on (tx := tx) (eeprom'.trans eeprom)
  rw [ssuMode_eq_modeOf re'] at hE
  have tick := ssuTick_of_ok tx (h.ssuPending hv cfg te) (h.tdr cfg) (accelPart_off (accel'.trans accel)) hE hL
  rw [Bool.false_or, Bool.or_false] at tick
  exact tick

/-- A unit's seventh tick is the one after six. -/
theorem ssuSend_eq (s : State) (tx : Byte) :
    s.ssuSend tx = (times State.ssuTick 6 (s.store8 s.cfg.io.ssuTdr tx)).ssuTick :=
  times_succ' ..

/-- The cycles of a byte, counted modulo seven (rule R1233). -/
theorem progress_succ {k : Nat} (hk : k + 1 < 7) :
    (⟨k, Nat.lt_of_succ_lt hk⟩ : Fin 7) ≠ 6 ∧ (⟨k, Nat.lt_of_succ_lt hk⟩ : Fin 7) + 1 = ⟨k + 1, hk⟩ := by
  refine ⟨fun h => ?_, Fin.ext ?_⟩
  · have := congrArg Fin.val h
    simp at this
    omega
  · simp [Fin.val_add]
    omega

theorem eeprom_waits (hv : s.cfg.valid = true) (on : s.onEeprom combined) (hp : s.eep.progress = 0) (tx : Byte)
    (k : Nat) (hk : k < 7) : ∃ u, u = times State.ssuTick k (s.store8 s.cfg.io.ssuTdr tx)
      ∧ stillPending s u tx ∧ u = { s with mem := u.mem, eep := { s.eep with progress := ⟨k, hk⟩ } } := by
  induction k with
  | zero =>
    obtain ⟨pending, frame⟩ := stillPending_store hv tx
    refine ⟨_, rfl, pending, ?_⟩
    rw [show (⟨0, hk⟩ : Fin 7) = s.eep.progress from hp.symm]
    exact frame
  | succ k ih =>
    obtain ⟨u, hu, pending, frame⟩ := ih (by omega)
    obtain ⟨inside, next⟩ := progress_succ hk
    have cfg : u.cfg = s.cfg := by rw [frame]
    have eep : u.eep = { s.eep with progress := ⟨k, by omega⟩ } := by rw [frame]
    have tick := pending.eepromTick hv on cfg
    rw [eepCycle_within _ tx (by rw [eep]; exact inside)] at tick
    refine ⟨_, rfl, ?_⟩
    rw [times_succ', ← hu, tick]
    refine ⟨pending.congr rfl, ?_⟩
    rw [frame]
    show ({ s with mem := u.mem, eep := { s.eep with progress := ⟨k, _⟩ + 1 } } : State) = _
    rw [next]
    rfl

theorem eeprom_takes {t : State} (hv : s.cfg.valid = true) (on : s.onEeprom combined) (hp : s.eep.progress = 0)
    (ht : t = s.ssuSend tx) :
    taken s t tx combined ((s.eepByte (modeOf combined) tx none).1.isSome = true)
      ∧ t = { s.withEep (s.eepByte (modeOf combined) tx none).2 with mem := t.mem }
      ∧ (combined = true → ∀ b, (s.eepByte (modeOf combined) tx none).1 = some b → t.raw s.cfg.io.ssuRdr = b) := by
  obtain ⟨u, hu, pending, frame⟩ := eeprom_waits hv on hp tx 6 (by decide)
  have cfg : u.cfg = s.cfg := by rw [frame]
  have boundary : u.eep.progress = 6 := by rw [frame]; rfl
  have sees : ({ u with eep := { u.eep with progress := 0 } } : State).seesEep s := by
    rw [frame]
    refine ⟨rfl, ?_, rfl, rfl⟩
    show ({ s.eep with progress := 0 } : Eeprom) = s.eep
    rw [← hp]
  have tick := pending.eepromTick hv on cfg
  rw [eepCycle_boundary _ tx boundary, eepByte_congr _ tx sees, Option.or_none] at tick
  generalize s.eepByte (modeOf combined) tx none = r at tick
  have ends : t = (u.withEep r.2).ssuComplete (u.received r.1 none) := by
    rw [ht, ssuSend_eq, ← hu]
    exact tick
  obtain ⟨done, kept, got⟩ := pending.completed hv on.2.1 (v := u.withEep r.2) rfl cfg _ ends
  have received : combined = true → u.received r.1 none = r.1 := fun both => by
    rw [State.received, pending.re hv cfg on.2.1, if_pos both, Option.or_none]
  refine ⟨done.congr fun both => by rw [received both], ?_, fun both b hb => got both b ((received both).trans hb)⟩
  unfold State.keepsAllButMem at kept
  rw [kept, frame]
  rfl

/-! ### What a byte is to the EEPROM, by its state -/

theorem Config.eepCommands_apart {c : Config} (hv : c.valid = true) :
    c.eepCmdRead ≠ c.eepCmdWrite ∧ c.eepCmdRead ≠ c.eepCmdWren ∧ c.eepCmdRead ≠ c.eepCmdRdsr
      ∧ c.eepCmdWrite ≠ c.eepCmdWren ∧ c.eepCmdWrite ≠ c.eepCmdRdsr ∧ c.eepCmdWren ≠ c.eepCmdRdsr := by
  simp only [Config.valid, Bool.and_eq_true, bne_iff_ne] at hv
  tauto

theorem eepCommand_read (h : tx = s.cfg.eepCmdRead) :
    s.eepCommand tx = { s with eep := { s.eep with kind := .read, state := .addrHigh } } := if_pos h

theorem eepCommand_write (hv : s.cfg.valid = true) (h : tx = s.cfg.eepCmdWrite) :
    s.eepCommand tx = { s with eep := { s.eep with kind := .write, state := .addrHigh } } := by
  obtain ⟨read, -⟩ := Config.eepCommands_apart hv
  rw [State.eepCommand, h, if_neg (Ne.symm read), if_pos rfl]

theorem eepCommand_wren (hv : s.cfg.valid = true) (h : tx = s.cfg.eepCmdWren) :
    s.eepCommand tx = { s with eep := { s.eep with status := setBitOf s.cfg.eepWelBit s.eep.status } } := by
  obtain ⟨-, read, -, write, -⟩ := Config.eepCommands_apart hv
  rw [State.eepCommand, h, if_neg (Ne.symm read), if_neg (Ne.symm write), if_pos rfl]
  rfl

theorem eepCommand_rdsr (hv : s.cfg.valid = true) (h : tx = s.cfg.eepCmdRdsr) :
    s.eepCommand tx = { s with eep := { s.eep with state := .readStatus } } := by
  obtain ⟨-, -, read, -, write, wren⟩ := Config.eepCommands_apart hv
  rw [State.eepCommand, h, if_neg (Ne.symm read), if_neg (Ne.symm write), if_neg (Ne.symm wren), if_pos rfl]

theorem eepCommand_unknown
    (h : tx ∉ [s.cfg.eepCmdRead, s.cfg.eepCmdWrite, s.cfg.eepCmdWren, s.cfg.eepCmdRdsr]) :
    s.eepCommand tx = s.emit (.unknownCommand tx) := by
  simp only [List.mem_cons, List.not_mem_nil, or_false, not_or] at h
  obtain ⟨read, write, wren, rdsr⟩ := h
  rw [State.eepCommand, if_neg read, if_neg write, if_neg wren, if_neg rdsr]

end

section
variable {s : State} {tx : Byte} (mode : SsuMode)

theorem eepCommand_eepMem (s : State) (tx : Byte) : (s.eepCommand tx).eepMem = s.eepMem := by
  unfold State.eepCommand
  repeat' split
  all_goals rfl

theorem eepByte_eepMem (h : s.eep.state ≠ .writeData) : (s.eepByte mode tx none).2.eepMem = s.eepMem := by
  cases hs : s.eep.state with
  | waiting => rw [eepByte_waiting _ hs, eepCommand_eepMem]
  | addrHigh => rw [eepByte_addrHigh _ hs]
  | addrLow => rw [eepByte_addrLow _ hs]
  | readData => rw [eepByte_readData _ hs]
  | writeData => exact absurd hs h
  | readStatus => rw [eepByte_readStatus _ hs]

theorem eepByte_out (h : s.eep.state ≠ .waiting) : (s.eepByte mode tx none).2.out = s.out := by
  cases hs : s.eep.state with
  | waiting => exact absurd hs h
  | addrHigh => rw [eepByte_addrHigh _ hs]
  | addrLow => rw [eepByte_addrLow _ hs]
  | readData => rw [eepByte_readData _ hs]
  | writeData => rw [eepByte_writeData _ hs]
  | readStatus => rw [eepByte_readStatus _ hs]

end

/-! ### The addresses (rule R1241) -/

theorem append_toNat (x y : Byte) : (x ++ y : BitVec 16).toNat = 256 * x.toNat + y.toNat := by
  rw [← bigEndian_two]
  simp [bigEndian]

theorem high_append_toNat (x : Byte) (a : BitVec 16) :
    (x ++ a.extractLsb' 0 8 : BitVec 16).toNat = 256 * x.toNat + a.toNat % 256 := by
  rw [append_toNat, BitVec.extractLsb'_toNat]
  rfl

theorem append_low_toNat (x : Byte) (a : BitVec 16) :
    (a.extractLsb' 8 8 ++ x : BitVec 16).toNat = 256 * (a.toNat / 256) + x.toNat := by
  rw [append_toNat, upper_toNat]

theorem Eeprom.readAddr_toNat (e : Eeprom) : e.readAddr.toNat = (e.address.toNat + e.offset) % 65536 := by
  rw [Eeprom.readAddr, BitVec.toNat_add, BitVec.toNat_ofNat]
  omega

/-- A mask that clears the low `k` bits. -/
theorem clearLow_toNat {w : Nat} (a : BitVec w) {mask : BitVec w} (k : Nat)
    (hmask : ∀ i : Fin w, mask.getLsbD i = decide (k ≤ i.val)) : (a &&& mask).toNat = (a.toNat / 2 ^ k) <<< k := by
  have shifted : a &&& mask = (a >>> k) <<< k := by
    ext i hi
    have bit := hmask ⟨i, hi⟩
    rw [BitVec.getLsbD_eq_getElem hi] at bit
    by_cases h : k ≤ i
    · simp [bit, h, Nat.not_lt.2 h, BitVec.getLsbD_eq_getElem hi]
    · simp [bit, h, Nat.not_le.1 h]
  have small : a.toNat / 2 ^ k * 2 ^ k < 2 ^ w := Nat.lt_of_le_of_lt (Nat.div_mul_le_self _ _) a.isLt
  rw [shifted, BitVec.toNat_shiftLeft, BitVec.toNat_ushiftRight, Nat.shiftRight_eq_div_pow, Nat.shiftLeft_eq,
    Nat.mod_eq_of_lt small]

theorem pageOffset_toNat (a : BitVec 16) : (a &&& 0x7F#16).toNat = a.toNat % 128 :=
  Nat.and_two_pow_sub_one_eq_mod a.toNat 7

/-- A write stays in its page of 128. -/
theorem Eeprom.writeAddr_toNat (e : Eeprom) :
    e.writeAddr.toNat = e.address.toNat / 128 * 128 + (e.address.toNat + e.offset) % 128 := by
  have base : (e.address &&& 0xFF80#16).toNat = (e.address.toNat / 128) <<< 7 := clearLow_toNat _ 7 (by decide)
  have offset : ((e.address + BitVec.ofNat 16 e.offset) &&& 0x7F#16).toNat = (e.address.toNat + e.offset) % 128 := by
    rw [pageOffset_toNat, ← Eeprom.readAddr, Eeprom.readAddr_toNat]
    omega
  show ((e.address &&& 0xFF80#16) ||| ((e.address + BitVec.ofNat 16 e.offset) &&& 0x7F#16)).toNat = _
  rw [BitVec.toNat_or, base, offset, ← Nat.shiftLeft_add_eq_or_of_lt (Nat.mod_lt _ (by decide)), Nat.shiftLeft_eq]

/-- Settles O53: six ticks that only count, then what the byte is by the protocol's state. -/
theorem eepromTakesBytes : Obligations.EepromTakesBytes := by
  intro s t tx combined hv on hp ht
  obtain ⟨done, frame, got⟩ := eeprom_takes hv on hp ht
  have eep : t.eep = (s.eepByte (modeOf combined) tx none).2.eep := by rw [frame]; rfl
  have eepMem : t.eepMem = (s.eepByte (modeOf combined) tx none).2.eepMem := by rw [frame]; rfl
  have out : t.out = (s.eepByte (modeOf combined) tx none).2.out := by rw [frame]; rfl
  refine ⟨eeprom_waits hv on hp tx, done.congr fun both => ?_, by rw [frame]; rfl, fun waiting => ?_, fun high => ?_,
    fun low => ?_, fun read => ?_, fun write => ?_, fun status => ?_, fun other => ?_, fun busy => ?_⟩
  · rw [both]
    exact eepByte_answers
  · rw [eepByte_waiting _ waiting] at eep out
    refine ⟨fun h => ?_, fun h => ?_, fun h => ⟨_, bitMade_setBitOf rfl, ?_⟩, fun h => ?_, fun known => ?_,
      fun unknown => ?_⟩
    · rw [eep, eepCommand_read h]
    · rw [eep, eepCommand_write hv h]
    · rw [eep, eepCommand_wren hv h]
    · rw [eep, eepCommand_rdsr hv h]
    · rw [out]
      simp only [List.mem_cons, List.not_mem_nil, or_false] at known
      obtain h | h | h | h := known
      · rw [eepCommand_read h]
      · rw [eepCommand_write hv h]
      · rw [eepCommand_wren hv h]
      · rw [eepCommand_rdsr hv h]
    · rw [eep, out, eepCommand_unknown unknown]
      exact ⟨rfl, rfl⟩
  · rw [eepByte_addrHigh _ high] at eep
    rw [eep]
    exact ⟨high_append_toNat .., rfl⟩
  · rw [eepByte_addrLow _ low] at eep
    rw [eep]
    exact ⟨append_low_toNat .., rfl⟩
  · rw [eepByte_readData _ read] at eep got
    refine ⟨eep, fun both => ?_⟩
    rw [← Eeprom.readAddr_toNat]
    subst both
    exact got rfl _ rfl
  · rw [eepByte_writeData _ write] at eep eepMem
    refine ⟨eep, fun a => ?_⟩
    rw [eepMem, Memory.read_write, Eeprom.writeAddr_toNat]
  · rw [eepByte_readStatus _ status] at eep got
    refine ⟨eep, fun both => ?_⟩
    subst both
    exact got rfl _ rfl
  · rw [eepMem, eepByte_eepMem _ other]
  · rw [out, eepByte_out _ busy]

end Sys2Proof.Machine
end

section
/-! SUPPORT. A byte sent to the accelerometer, and one sent to the LCD controller. From these, the two statements. -/

namespace Sys2Proof.Machine
set_option Elab.async false

/-! ### A byte for the accelerometer (`60_exceptions.md` rule R1244) -/

section
variable {s u t : State} {tx : Byte} {combined : Bool}

/-- The parts of a tick of the SSU on to the accelerometer alone. -/
theorem stillPending.accelParts (hv : s.cfg.valid = true) (on : s.onAccel combined) (cfg : u.cfg = s.cfg)
    (h : stillPending s u tx) :
    u.ssuPending ∧ u.accelPart tx = (u.accelByte (modeOf combined) tx none).map (true, ·)
      ∧ u.eepPart tx = (false, none, u) ∧ u.lcdPart tx = .ok (false, u) := by
  obtain ⟨te, re, accel, eeprom, lcd⟩ := on
  obtain ⟨eeprom', accel', lcd', dc'⟩ := h.selects hv cfg
  have re' := h.re hv cfg re
  refine ⟨h.ssuPending hv cfg te, ?_, eepPart_off (eeprom'.trans eeprom), ?_⟩
  · rw [accelPart_on (accel'.trans accel), ssuMode_eq_modeOf re']
  · cases combined with
    | true => exact lcdPart_off (.inl re')
    | false => exact lcdPart_off (.inr ⟨dc'.trans (lcd rfl).1, lcd'.trans (lcd rfl).2⟩)

theorem stillPending.accelTick_error (hv : s.cfg.valid = true) (on : s.onAccel combined) (cfg : u.cfg = s.cfg)
    (h : stillPending s u tx) {k : FaultKind} (error : u.accelByte (modeOf combined) tx none = .error k) :
    u.ssuTick = u.raise k none := by
  obtain ⟨pending, hA, -, -⟩ := h.accelParts hv on cfg
  rw [error] at hA
  exact ssuTick_of_error tx pending (h.tdr cfg) (ssuServe_of_accel_error tx hA)

theorem stillPending.accelTick_ok (hv : s.cfg.valid = true) (on : s.onAccel combined) (frame : s.keepsAllButMem u)
    (h : stillPending s u tx) {rx : Option Byte} {v : State} (ok : u.accelByte (modeOf combined) tx none = .ok (rx, v))
    (ht : t = u.ssuTick) :
    taken s t tx combined (rx.isSome = true) ∧ t = { s.withAcc v with mem := t.mem }
      ∧ (combined = true → ∀ b, rx = some b → t.raw s.cfg.io.ssuRdr = b) := by
  unfold State.keepsAllButMem at frame
  have cfg : u.cfg = s.cfg := by rw [frame]
  obtain ⟨pending, hA, hE, hL⟩ := h.accelParts hv on cfg
  rw [ok] at hA
  have tick : t = (u.withAcc v).ssuComplete (u.received none rx) :=
    ht.trans (ssuTick_of_ok tx pending (h.tdr cfg) hA hE hL)
  obtain ⟨done, kept, got⟩ := h.completed hv on.2.1 (v := u.withAcc v) rfl cfg _ tick
  have received : combined = true → u.received none rx = rx := fun both => by
    rw [State.received, h.re hv cfg on.2.1, if_pos both, Option.none_or]
  refine ⟨done.congr fun both => by rw [received both], ?_, fun both b hb => got both b ((received both).trans hb)⟩
  unfold State.keepsAllButMem at kept
  rw [kept, frame]
  rfl

theorem lowNibble_eq (b : Byte) : b &&& 0x0F = BitVec.ofNat 8 (b.toNat % 16) := by
  refine BitVec.eq_of_toNat_eq ?_
  rw [BitVec.toNat_ofNat, BitVec.toNat_and]
  exact (Nat.and_two_pow_sub_one_eq_mod b.toNat 4).trans (by omega)

end

/-- Settles O55: the write of the byte, then one tick by the protocol's state. -/
theorem accelerometerTakesBytes : Obligations.AccelerometerTakesBytes := by
  intro s m t tx combined hv on size hm ht
  obtain ⟨pending, frame⟩ := stillPending_store hv tx
  rw [← hm] at pending frame
  have cfg : m.cfg = s.cfg := by rw [frame]
  have acc : m.acc = s.acc := by rw [frame]
  have accMem : m.accMem = s.accMem := by rw [frame]
  refine ⟨pending, frame, fun waiting => ?_, fun data within => ?_, fun data past => ?_⟩
  · obtain ⟨v, byte, address⟩ : ∃ v, m.accelByte (modeOf combined) tx none = .ok (none, v) ∧ v
        = { m with acc := ⟨.data, BitVec.ofNat 8 (if combined then tx.toNat % 16 else tx.toNat), 0⟩ } := by
      cases combined with
      | true => exact ⟨_, accelByte_address_combined (by rwa [acc]), by rw [lowNibble_eq]; rfl⟩
      | false => exact ⟨_, accelByte_address_txonly (by rwa [acc]), by simp⟩
    obtain ⟨done, kept, -⟩ := pending.accelTick_ok hv on frame byte ht
    have vMem : v.accMem = s.accMem := by rw [address]; exact accMem
    refine ⟨?_, done.congr fun _ => iff_of_false nofun id, ?_⟩
    · rw [kept, address]
      rfl
    · rw [kept]
      show ({ s with mem := _, acc := _, accMem := v.accMem } : State) = _
      rw [vMem]
  · have inside : ¬ m.cfg.accelSize ≤ m.acc.index := by
      rw [cfg, acc]
      exact Nat.not_le.2 within
    cases combined with
    | true =>
      obtain ⟨done, kept, got⟩ := pending.accelTick_ok hv on frame (accelByte_read (by rwa [acc]) inside) ht
      refine ⟨?_, done.congr fun _ => iff_of_true rfl trivial, fun _ => ⟨?_, ?_⟩, nofun, ?_⟩
      · rw [kept, ← acc]
        rfl
      · rw [got rfl _ rfl, acc, accMem]
        rfl
      · rw [kept]
        exact accMem
      · rw [kept]
        rfl
    | false =>
      obtain ⟨done, kept, -⟩ := pending.accelTick_ok hv on frame (accelByte_write (by rwa [acc]) inside) ht
      refine ⟨?_, done.congr nofun, nofun, fun _ j => ?_, ?_⟩
      · rw [kept, ← acc]
        rfl
      · rw [kept]
        show (m.accMem.set m.acc.index tx).getD j 0 = _
        have room : s.acc.index < s.accMem.length := by
          rw [size]
          exact within
        rw [acc, accMem, List.getD_eq_getElem?_getD, List.getElem?_set, List.getD_eq_getElem?_getD]
        by_cases h : s.acc.index = j
        · rw [if_pos h, if_pos room]
          exact (if_pos h.symm).symm
        · rw [if_neg h]
          exact (if_neg (Ne.symm h)).symm
      · rw [kept]
        rfl
  · rw [ht, pending.accelTick_error hv on cfg (accelByte_past _ (by rwa [acc]) (by rw [cfg, acc]; exact past))]
    have count : m.instrCount = s.instrCount := by rw [frame]
    have pc : m.pc = s.pc := by rw [frame]
    rw [← count, ← pc, ← acc]
    rfl

/-! ### A byte for the LCD controller (rules R1233, R1246) -/

/-- The path to the LCD controller. -/
def pathOf (data : Bool) : LcdPath := if data then .data else .command

section
variable {s u : State} {tx : Byte} {data : Bool}

/-- The parts of a tick of the SSU on to the LCD controller alone. -/
theorem stillPending.lcdParts (hv : s.cfg.valid = true) (on : s.onLcd data) (cfg : u.cfg = s.cfg)
    (h : stillPending s u tx) :
    u.ssuPending ∧ u.accelPart tx = .ok (false, none, u) ∧ u.eepPart tx = (false, none, u)
      ∧ u.lcdPart tx = u.lcdCycle (pathOf data) tx := by
  obtain ⟨te, re, dc, lcd, accel, eeprom⟩ := on
  obtain ⟨eeprom', accel', lcd', dc'⟩ := h.selects hv cfg
  have re' := h.re hv cfg re
  refine ⟨h.ssuPending hv cfg te, accelPart_off (accel'.trans accel), eepPart_off (eeprom'.trans eeprom), ?_⟩
  rw [State.lcdPart, re', if_neg Bool.false_ne_true, State.ssuLcd, dc', dc, lcd']
  cases data with
  | true => rfl
  | false => rw [lcd rfl]; rfl

theorem stillPending.lcdTick_error (hv : s.cfg.valid = true) (on : s.onLcd data) (cfg : u.cfg = s.cfg)
    (h : stillPending s u tx) {k : FaultKind} (error : u.lcdCycle (pathOf data) tx = .error k) :
    u.ssuTick = u.raise k none := by
  obtain ⟨pending, hA, -, hL⟩ := h.lcdParts hv on cfg
  exact ssuTick_of_error tx pending (h.tdr cfg) (ssuServe_of_lcd_error tx hA (hL.trans error))

theorem stillPending.lcdTick_ok (hv : s.cfg.valid = true) (on : s.onLcd data) (cfg : u.cfg = s.cfg)
    (h : stillPending s u tx) {done : Bool} {v : State} (ok : u.lcdCycle (pathOf data) tx = .ok (done, v)) :
    u.ssuTick = if done then (u.withLcd v).ssuComplete none else u.withLcd v := by
  obtain ⟨pending, hA, hE, hL⟩ := h.lcdParts hv on cfg
  have tick := ssuTick_of_ok tx pending (h.tdr cfg) hA hE (hL.trans ok)
  rw [State.received, h.re hv cfg on.2.1, if_neg Bool.false_ne_true] at tick
  exact tick

theorem lcd_waits (hv : s.cfg.valid = true) (on : s.onLcd data) (hp : s.lcd.progress = 0) (tx : Byte) (k : Nat)
    (hk : k < 7) : ∃ u, u = times State.ssuTick k (s.store8 s.cfg.io.ssuTdr tx)
      ∧ stillPending s u tx ∧ u = { s with mem := u.mem, lcd := { s.lcd with progress := ⟨k, hk⟩ } } := by
  induction k with
  | zero =>
    obtain ⟨pending, frame⟩ := stillPending_store hv tx
    refine ⟨_, rfl, pending, ?_⟩
    rw [show (⟨0, hk⟩ : Fin 7) = s.lcd.progress from hp.symm]
    exact frame
  | succ k ih =>
    obtain ⟨u, hu, pending, frame⟩ := ih (by omega)
    obtain ⟨inside, next⟩ := progress_succ hk
    have cfg : u.cfg = s.cfg := by rw [frame]
    have lcd : u.lcd = { s.lcd with progress := ⟨k, by omega⟩ } := by rw [frame]
    have tick := pending.lcdTick_ok hv on cfg (lcdCycle_within tx (by rw [lcd]; exact inside) _)
    refine ⟨_, rfl, ?_⟩
    rw [times_succ', ← hu, tick]
    refine ⟨pending.congr rfl, ?_⟩
    rw [frame]
    show ({ s with mem := u.mem, lcd := { s.lcd with progress := ⟨k, _⟩ + 1 } } : State) = _
    rw [next]
    rfl

/-- The state before the seventh tick, and what the LCD controller's part of it sees. -/
theorem lcd_seventh (hv : s.cfg.valid = true) (on : s.onLcd data) (hp : s.lcd.progress = 0) (tx : Byte) :
    ∃ u, s.ssuSend tx = u.ssuTick ∧ stillPending s u tx
      ∧ u = { s with mem := u.mem, lcd := { s.lcd with progress := 6 } }
      ∧ ({ u with lcd := { u.lcd with progress := 0 } } : State).seesLcd s := by
  obtain ⟨u, hu, pending, frame⟩ := lcd_waits hv on hp tx 6 (by decide)
  refine ⟨u, by rw [ssuSend_eq, hu], pending, frame, ?_⟩
  rw [frame]
  refine ⟨rfl, ?_, rfl⟩
  show ({ s.lcd with progress := 0 } : Lcd) = s.lcd
  rw [← hp]

/-- The end of the transfer to the LCD controller. -/
theorem stillPending.lcdTaken {t v : State} (hv : s.cfg.valid = true) (on : s.onLcd data)
    (frame : u = { s with mem := u.mem, lcd := { s.lcd with progress := 6 } }) (h : stillPending s u tx)
    (ok : u.lcdCycle (pathOf data) tx = .ok (true, v)) (ht : t = u.ssuTick) :
    taken s t tx false False ∧ t = { s.withLcd v with mem := t.mem } := by
  have cfg : u.cfg = s.cfg := by rw [frame]
  obtain ⟨done, kept, -⟩ := h.completed hv on.2.1 (v := u.withLcd v) rfl cfg none (ht.trans (h.lcdTick_ok hv on cfg ok))
  refine ⟨done.congr nofun, ?_⟩
  unfold State.keepsAllButMem at kept
  rw [kept, frame]
  rfl

theorem lcdData_past (h : Config.fbSize s.cfg ≤ s.lcd.index s.cfg.lcdWidth) :
    s.lcdData tx = .error (.lcdRange (s.lcd.index s.cfg.lcdWidth)) := if_pos h

theorem lcdData_within (h : ¬ Config.fbSize s.cfg ≤ s.lcd.index s.cfg.lcdWidth) :
    s.lcdData tx = .ok { s with
      fb := s.fb.write fbUnlisted (s.lcd.index s.cfg.lcdWidth) tx
      lcd := { s.lcd with column := if s.lcd.offset = 1 then s.lcd.column + 1 else s.lcd.column,
                          offset := 1 - s.lcd.offset } } := if_neg h

/-- A byte on the data path, taken or past the framebuffer. -/
theorem lcd_takes_data {t : State} (hv : s.cfg.valid = true) (on : s.onLcd true) (hp : s.lcd.progress = 0)
    (ht : t = s.ssuSend tx) :
    (∀ v, s.lcdData tx = .ok v → taken s t tx false False ∧ t = { s.withLcd v with mem := t.mem })
      ∧ (∀ k, s.lcdData tx = .error k → stillPending s t tx
        ∧ t = ({ s with mem := t.mem, lcd := { s.lcd with progress := 6 } } : State).raise k none) := by
  obtain ⟨u, hu, pending, frame, sees⟩ := lcd_seventh hv on hp tx
  have boundary : u.lcd.progress = 6 := by rw [frame]
  have cycle := lcdCycle_data tx boundary
  rw [lcdData_congr tx sees] at cycle
  refine ⟨fun v ok => ?_, fun k error => ?_⟩
  · rw [ok] at cycle
    exact pending.lcdTaken (v := ({ u with lcd := { u.lcd with progress := 0 } } : State).withLcd v) hv on frame cycle
      (ht.trans hu)
  · rw [error] at cycle
    have cfg : u.cfg = s.cfg := by rw [frame]
    rw [ht, hu, pending.lcdTick_error hv on cfg cycle]
    refine ⟨pending.congr rfl, ?_⟩
    rw [frame]
    rfl

/-- A byte on the command path. -/
theorem lcd_takes_command {t : State} (hv : s.cfg.valid = true) (on : s.onLcd false) (hp : s.lcd.progress = 0)
    (ht : t = s.ssuSend tx) :
    taken s t tx false False ∧ t = { s with mem := t.mem, lcd := s.lcd.command tx } := by
  obtain ⟨u, hu, pending, frame, sees⟩ := lcd_seventh hv on hp tx
  have boundary : u.lcd.progress = 6 := by rw [frame]
  have cycle := lcdCycle_command tx boundary
  obtain ⟨done, kept⟩ := pending.lcdTaken hv on frame cycle (ht.trans hu)
  have lcd : ({ u.lcd with progress := 0 } : Lcd) = s.lcd := sees.2.1
  have fb : u.fb = s.fb := sees.2.2
  rw [lcd] at kept
  refine ⟨done, kept.trans ?_⟩
  show ({ s with mem := t.mem, lcd := s.lcd.command tx, fb := u.fb } : State) = _
  rw [fb]

/-! The command bytes (rule R1246). -/

section
variable {l : Lcd}

theorem Lcd.command_contrast (h : l.state = .contrast) :
    l.command tx = { l with contrast := tx, state := .waiting } := by
  simp only [Lcd.command, h]

theorem Lcd.command_columnLow (h : l.state = .waiting) (hi : tx.toNat ≤ 0x0F) :
    (l.command tx).column.toNat = l.column.toNat / 16 * 16 + tx.toNat
      ∧ l.command tx = { l with column := (l.command tx).column } := by
  have command : l.command tx = { l with column := (l.column &&& 0xF0) ||| tx } := by
    simp only [Lcd.command, h, if_pos hi]
  rw [command]
  refine ⟨?_, rfl⟩
  have base : (l.column &&& 0xF0).toNat = (l.column.toNat / 16) <<< 4 := clearLow_toNat _ 4 (by decide)
  show ((l.column &&& 0xF0) ||| tx).toNat = _
  rw [BitVec.toNat_or, base, ← Nat.shiftLeft_add_eq_or_of_lt (by omega), Nat.shiftLeft_eq]

theorem Lcd.command_columnHigh (h : l.state = .waiting) (lo : 0x10 ≤ tx.toNat) (hi : tx.toNat ≤ 0x17) :
    (l.command tx).column.toNat = l.column.toNat % 16 + 16 * (tx.toNat - 0x10)
      ∧ l.command tx = { l with column := (l.command tx).column } := by
  have command : l.command tx
      = { l with column := (l.column &&& (0x0F : Byte)) ||| ((tx &&& (0x07 : Byte)) <<< 4) } := by
    simp only [Lcd.command, h, if_neg (show ¬ tx.toNat ≤ 0x0F by omega), if_pos hi]
    rfl
  rw [command]
  refine ⟨?_, rfl⟩
  have low : (l.column &&& 0x0F).toNat = l.column.toNat % 16 := Nat.and_two_pow_sub_one_eq_mod l.column.toNat 4
  have three : (tx &&& 0x07).toNat = tx.toNat % 8 := Nat.and_two_pow_sub_one_eq_mod tx.toNat 3
  have high : ((tx &&& 0x07) <<< 4).toNat = (tx.toNat - 0x10) <<< 4 := by
    rw [BitVec.toNat_shiftLeft, three, Nat.shiftLeft_eq, Nat.shiftLeft_eq]
    omega
  show ((l.column &&& (0x0F : Byte)) ||| ((tx &&& (0x07 : Byte)) <<< 4)).toNat = _
  rw [BitVec.toNat_or, low, high, Nat.or_comm, ← Nat.shiftLeft_add_eq_or_of_lt (Nat.mod_lt _ (by decide)),
    Nat.shiftLeft_eq]
  omega

theorem Lcd.command_page (h : l.state = .waiting) (lo : 0xB0 ≤ tx.toNat) (hi : tx.toNat ≤ 0xBF) :
    (l.command tx).page.toNat = tx.toNat - 0xB0 ∧ l.command tx = { l with page := (l.command tx).page } := by
  have command : l.command tx = { l with page := tx.extractLsb' 0 4 } := by
    simp only [Lcd.command, h, if_neg (show ¬ tx.toNat ≤ 0x0F by omega), if_neg (show ¬ tx.toNat ≤ 0x17 by omega),
      if_pos (show 0xB0 ≤ tx.toNat ∧ tx.toNat ≤ 0xBF from ⟨lo, hi⟩)]
  rw [command]
  refine ⟨?_, rfl⟩
  rw [BitVec.extractLsb'_toNat, Nat.shiftRight_zero]
  omega

theorem Lcd.command_toContrast (h : l.state = .waiting) (is : tx.toNat = 0x81) :
    l.command tx = { l with state := .contrast } := by
  have word : tx = 0x81 := BitVec.eq_of_toNat_eq is
  simp only [Lcd.command, h, if_neg (show ¬ tx.toNat ≤ 0x0F by omega), if_neg (show ¬ tx.toNat ≤ 0x17 by omega),
    if_neg (show ¬ (0xB0 ≤ tx.toNat ∧ tx.toNat ≤ 0xBF) by omega), if_pos word]

theorem Lcd.command_ignored (h : l.state = .waiting) (lo : 0x18 ≤ tx.toNat) (page : tx.toNat < 0xB0 ∨ 0xBF < tx.toNat)
    (isNot : tx.toNat ≠ 0x81) : l.command tx = l := by
  have word : tx ≠ 0x81 := fun h => isNot (congrArg BitVec.toNat h)
  simp only [Lcd.command, h, if_neg (show ¬ tx.toNat ≤ 0x0F by omega), if_neg (show ¬ tx.toNat ≤ 0x17 by omega),
    if_neg (show ¬ (0xB0 ≤ tx.toNat ∧ tx.toNat ≤ 0xBF) by omega), if_neg word]

end

end

/-- Settles O56: six ticks that only count, then the data byte or the command. -/
theorem lcdTakesBytes : Obligations.LcdTakesBytes := by
  rintro s t tx data i hv on hp ht rfl
  refine ⟨lcd_waits hv on hp tx, ?_, ?_, ?_⟩
  · rintro rfl within
    obtain ⟨taken, -⟩ := lcd_takes_data hv on hp ht
    obtain ⟨done, kept⟩ := taken _ (lcdData_within (Nat.not_le.2 within))
    refine ⟨fun a => ?_, fun zero => ?_, fun one => ?_, done, ?_⟩
    · rw [kept]
      exact Memory.read_write ..
    · rw [kept]
      simp [State.withLcd, zero]
    · rw [kept]
      simp [State.withLcd, one]
    · rw [kept]
      rfl
  · rintro rfl past
    obtain ⟨-, faults⟩ := lcd_takes_data hv on hp ht
    obtain ⟨pending, kept⟩ := faults _ (lcdData_past past)
    exact ⟨pending, kept⟩
  · rintro rfl
    obtain ⟨done, kept⟩ := lcd_takes_command hv on hp ht
    have lcd : t.lcd = s.lcd.command tx := by rw [kept]
    rw [lcd]
    exact ⟨kept, done, Lcd.command_contrast, fun waiting => ⟨Lcd.command_columnLow waiting,
      Lcd.command_columnHigh waiting, Lcd.command_page waiting, Lcd.command_toContrast waiting,
      Lcd.command_ignored waiting⟩⟩

end Sys2Proof.Machine
end

section
/-! SUPPORT. Bytes sent to the EEPROM one after another: a command and an address, bytes written, the select given
again, bytes read. From these, the statement on the round trip. -/

namespace Sys2Proof.Machine
set_option Elab.async false

/-! ### From byte to byte (`60_exceptions.md` rules R1232, R1241) -/

section
variable {s t : State} {tx : Byte}

/-- The SSU is on to the EEPROM in combined mode, at a byte boundary. -/
def State.eepReady (s : State) : Prop := s.cfg.valid = true ∧ s.onEeprom true ∧ s.eep.progress = 0

/-- A byte that has been taken leaves the SSU's switches and the selects. -/
theorem taken.bit {combined : Bool} {answers : Prop} (hv : s.cfg.valid = true) (h : taken s t tx combined answers)
    (i : Nat) (hi : i < 38) (h22 : i ≠ 22) (h23 : i ≠ 23) (h24 : i ≠ 24) {f : BitLoc}
    (hf : s.cfg.io.otherPieces[i]? = some f.piece) : t.bit f = s.bit f := by
  obtain ⟨-, -, -, alone, both⟩ := h
  have tdr := Ne.symm (Config.byte_ne_bit hv 43 i (by omega) rfl hf)
  have rdr := Ne.symm (Config.byte_ne_bit hv 44 i (by omega) rfl hf)
  have tdre := bit_ne_of_piece_disjoint (Config.bits_disjoint hv i 22 h22 hf rfl)
  have rdrf := bit_ne_of_piece_disjoint (Config.bits_disjoint hv i 23 h23 hf rfl)
  have tend := bit_ne_of_piece_disjoint (Config.bits_disjoint hv i 24 h24 hf rfl)
  cases combined with
  | false => exact (alone rfl).2 f (by simpa using tdr) (by simpa using ⟨tdre, tend⟩)
  | true =>
    obtain ⟨-, answered, silent⟩ := both rfl
    by_cases h : answers
    · exact (answered h).2 f (by simpa using ⟨tdr, rdr⟩) (by simpa using ⟨tdre, tend, rdrf⟩)
    · exact (silent h).2 f (by simpa using tdr) (by simpa using ⟨tdre, tend, rdrf⟩)

theorem eepCommand_progress (s : State) (tx : Byte) : (s.eepCommand tx).eep.progress = s.eep.progress := by
  unfold State.eepCommand
  repeat' split
  all_goals rfl

theorem eepByte_progress (mode : SsuMode) : (s.eepByte mode tx none).2.eep.progress = s.eep.progress := by
  cases hs : s.eep.state with
  | waiting => rw [eepByte_waiting _ hs, eepCommand_progress]
  | addrHigh => rw [eepByte_addrHigh _ hs]
  | addrLow => rw [eepByte_addrLow _ hs]
  | readData => rw [eepByte_readData _ hs]
  | writeData => rw [eepByte_writeData _ hs]
  | readStatus => rw [eepByte_readStatus _ hs]

/-- A byte sent, and the next one may follow. -/
theorem State.eepReady.send (h : s.eepReady) (ht : t = s.ssuSend tx) :
    t.eepReady ∧ t.cfg = s.cfg ∧ t.eep = (s.eepByte .combined tx none).2.eep
      ∧ t.eepMem = (s.eepByte .combined tx none).2.eepMem
      ∧ ∀ b, (s.eepByte .combined tx none).1 = some b → t.raw s.cfg.io.ssuRdr = b := by
  obtain ⟨hv, on, hp⟩ := h
  obtain ⟨done, frame, got⟩ := eeprom_takes hv on hp ht
  have cfg : t.cfg = s.cfg := by rw [frame]; rfl
  have eep : t.eep = (s.eepByte .combined tx none).2.eep := by rw [frame]; rfl
  have te := done.bit hv 20 (by decide) (by decide) (by decide) (by decide) (f := s.cfg.io.ssuTe) rfl
  have re := done.bit hv 21 (by decide) (by decide) (by decide) (by decide) (f := s.cfg.io.ssuRe) rfl
  have eeprom := done.bit hv 25 (by decide) (by decide) (by decide) (by decide) (f := s.cfg.io.csEeprom) rfl
  have accel := done.bit hv 26 (by decide) (by decide) (by decide) (by decide) (f := s.cfg.io.csAccel) rfl
  refine ⟨⟨by rwa [cfg], ?_, by rw [eep, eepByte_progress, hp]⟩, cfg, eep, by rw [frame]; rfl, got rfl⟩
  obtain ⟨onTe, onRe, onEeprom, offAccel, -⟩ := on
  unfold State.onEeprom
  rw [cfg]
  exact ⟨te.trans onTe, re.trans onRe, (selected_congr _ eeprom).trans onEeprom,
    (selected_congr _ accel).trans offAccel, nofun⟩

end

/-! ### The phases of a transfer -/

section
variable {s t : State}

/-- The EEPROM waits for a command. -/
def State.eepWaits (s : State) : Prop := s.eepReady ∧ s.eep.state = .waiting

/-- `k` bytes from address `a` on have been transferred, read or written by `phase`. -/
def State.eepAt (s : State) (phase : EepromState) (a k : Nat) : Prop :=
  s.eepReady ∧ s.eep.state = phase ∧ s.eep.address.toNat = a ∧ s.eep.offset = k

theorem State.eepAt.write {a k : Nat} (h : s.eepAt .writeData a k) (room : a % 128 + k < 128) {d : Byte}
    (ht : t = s.ssuSend d) :
    t.eepAt .writeData a (k + 1) ∧ t.cfg = s.cfg
      ∧ ∀ x, t.eepMem.read eepErased x = if x = a + k then d else s.eepMem.read eepErased x := by
  obtain ⟨ready, phase, address, offset⟩ := h
  obtain ⟨ready', cfg, eep, eepMem, -⟩ := ready.send ht
  rw [eepByte_writeData _ phase] at eep eepMem
  refine ⟨⟨ready', by rw [eep]; exact phase, by rw [eep]; exact address, by rw [eep, ← offset]⟩, cfg, fun x => ?_⟩
  have place : s.eep.writeAddr.toNat = a + k := by
    rw [Eeprom.writeAddr_toNat, address, offset]
    omega
  rw [eepMem, Memory.read_write, place]

theorem State.eepAt.read {a k : Nat} (h : s.eepAt .readData a k) (room : a + k < 65536) {x : Byte}
    (ht : t = s.ssuSend x) :
    t.eepAt .readData a (k + 1) ∧ t.cfg = s.cfg ∧ t.eepMem = s.eepMem
      ∧ t.raw s.cfg.io.ssuRdr = s.eepMem.read eepErased (a + k) := by
  obtain ⟨ready, phase, address, offset⟩ := h
  obtain ⟨ready', cfg, eep, eepMem, got⟩ := ready.send ht
  rw [eepByte_readData _ phase] at eep eepMem got
  refine ⟨⟨ready', by rw [eep]; exact phase, by rw [eep]; exact address, by rw [eep, ← offset]⟩, cfg, eepMem, ?_⟩
  have place : s.eep.readAddr.toNat = a + k := by
    rw [Eeprom.readAddr_toNat, address, offset]
    omega
  rw [← place]
  exact got _ rfl

/-- A command and the two address bytes. -/
theorem State.eepWaits.address {cmd ah al : Byte} (h : s.eepWaits) (kind : EepromKind)
    (hcmd : s.eepCommand cmd = { s with eep := { s.eep with kind := kind, state := .addrHigh } })
    (ht : t = s.ssuSendAll [cmd, ah, al]) :
    t.eepAt (if kind = .read then .readData else .writeData) (256 * ah.toNat + al.toNat) 0 ∧ t.cfg = s.cfg
      ∧ t.eepMem = s.eepMem := by
  obtain ⟨ready, waits⟩ := h
  obtain ⟨ready₁, cfg₁, eep₁, mem₁, -⟩ := ready.send (tx := cmd) rfl
  rw [eepByte_waiting _ waits, hcmd] at eep₁ mem₁
  obtain ⟨ready₂, cfg₂, eep₂, mem₂, -⟩ := ready₁.send (tx := ah) rfl
  rw [eepByte_addrHigh _ (by rw [eep₁])] at eep₂ mem₂
  obtain ⟨ready₃, cfg₃, eep₃, mem₃, -⟩ := ready₂.send (tx := al) rfl
  rw [eepByte_addrLow _ (by rw [eep₂])] at eep₃ mem₃
  obtain rfl : t = ((s.ssuSend cmd).ssuSend ah).ssuSend al := ht
  refine ⟨⟨ready₃, by rw [eep₃, eep₂, eep₁], ?_, by rw [eep₃]⟩, cfg₃.trans (cfg₂.trans cfg₁),
    mem₃.trans (mem₂.trans mem₁)⟩
  rw [eep₃]
  show (((s.ssuSend cmd).ssuSend ah).eep.address.extractLsb' 8 8 ++ al : BitVec 16).toNat = _
  rw [append_low_toNat, eep₂]
  show 256 * ((ah ++ (s.ssuSend cmd).eep.address.extractLsb' 0 8 : BitVec 16).toNat / 256) + al.toNat = _
  rw [high_append_toNat]
  omega

theorem State.ssuSendAll_append (s : State) (xs ys : List Byte) :
    s.ssuSendAll (xs ++ ys) = (s.ssuSendAll xs).ssuSendAll ys := List.foldl_append

theorem State.eepWaits.writeEnable (h : s.eepWaits) (ht : t = s.ssuSendAll [s.cfg.eepCmdWren]) :
    t.eepWaits ∧ t.cfg = s.cfg := by
  obtain ⟨ready, waits⟩ := h
  obtain ⟨ready', cfg, eep, -, -⟩ := ready.send ht
  rw [eepByte_waiting _ waits, eepCommand_wren ready.1 rfl] at eep
  exact ⟨⟨ready', by rw [eep]; exact waits⟩, cfg⟩

/-! ### The select taken away and given again (rule R1237) -/

/-- A chip-select written by firmware: its bit, and the device's protocol where it ends at the inactive level. -/
theorem setSelect_csEeprom (hv : s.cfg.valid = true) (v : Bool) (ht : t = s.setSelect s.cfg.io.csEeprom v) :
    t.mem = (s.setBit s.cfg.io.csEeprom v).mem ∧ t.cfg = s.cfg ∧ t.eepMem = s.eepMem
      ∧ t.eep = if v = s.cfg.csEepromActive then s.eep else s.eep.protocolReset := by
  have ssu : s.cfg.io.csEeprom.addr ≠ s.cfg.io.ssuTdr := Ne.symm (Config.byte_ne_bit hv 43 25 (by decide) rfl rfl)
  have sci : s.cfg.io.csEeprom.addr ≠ s.cfg.io.sciTdr := Ne.symm (Config.byte_ne_bit hv 46 25 (by decide) rfl rfl)
  subst ht
  refine ⟨?_, rfl, rfl, ?_⟩
  · show ((s.mem.setByte _ _).writeHook s.cfg.io s.cfg.io.csEeprom.addr) = _
    simp only [Memory.writeHook, ssu, sci, if_false]
    rfl
  · show (if deselects s.cfg.io.csEeprom s.cfg.csEepromActive s.cfg.io.csEeprom.addr
      (putBit (s.raw s.cfg.io.csEeprom.addr) s.cfg.io.csEeprom.bit v) = true then _ else _) = _
    simp only [deselects, getLsbD_putBit, if_true, decide_true, Bool.true_and]
    by_cases h : v = s.cfg.csEepromActive
    · rw [if_pos h, if_neg (by simp [h])]
      rfl
    · rw [if_neg h, if_pos (by simpa using h)]
      rfl

/-- What a write of the EEPROM's select leaves of what the SSU sees. -/
theorem setSelect_csEeprom_bits (hv : s.cfg.valid = true) (v : Bool) (ht : t = s.setSelect s.cfg.io.csEeprom v) :
    t.bit s.cfg.io.csEeprom = v ∧ t.bit s.cfg.io.ssuTe = s.bit s.cfg.io.ssuTe
      ∧ t.bit s.cfg.io.ssuRe = s.bit s.cfg.io.ssuRe ∧ t.bit s.cfg.io.csAccel = s.bit s.cfg.io.csAccel := by
  obtain ⟨mem, -⟩ := setSelect_csEeprom hv v ht
  have bits : ∀ f : BitLoc, t.bit f = (s.setBit s.cfg.io.csEeprom v).bit f := State.bit_of_mem mem
  refine ⟨(bits _).trans (State.bit_setBit_self ..), (bits _).trans ?_, (bits _).trans ?_, (bits _).trans ?_⟩
  · exact bit_setBit_of_places hv 25 20 (by decide) rfl rfl s v
  · exact bit_setBit_of_places hv 25 21 (by decide) rfl rfl s v
  · exact bit_setBit_of_places hv 25 26 (by decide) rfl rfl s v

theorem State.eepReady.reselect (h : s.eepReady) (ht : t = s.eepReselect) :
    t.eepWaits ∧ t.cfg = s.cfg ∧ t.eepMem = s.eepMem := by
  obtain ⟨hv, ⟨te, re, -, accel, -⟩, -⟩ := h
  obtain ⟨m, hm⟩ : ∃ m, m = s.setSelect s.cfg.io.csEeprom (!s.cfg.csEepromActive) := ⟨_, rfl⟩
  obtain ⟨-, cfg, eepMem, eep⟩ := setSelect_csEeprom hv _ hm
  obtain ⟨-, te₁, re₁, accel₁⟩ := setSelect_csEeprom_bits hv _ hm
  have hvm : m.cfg.valid = true := by rwa [cfg]
  have hmt : t = m.setSelect m.cfg.io.csEeprom m.cfg.csEepromActive := by rw [ht, cfg, hm]; rfl
  obtain ⟨-, cfg', eepMem', eep'⟩ := setSelect_csEeprom hvm _ hmt
  obtain ⟨on, te₂, re₂, accel₂⟩ := setSelect_csEeprom_bits hvm _ hmt
  rw [cfg] at cfg' on te₂ re₂ accel₂
  rw [if_pos rfl, eep, if_neg (by simp)] at eep'
  refine ⟨⟨⟨by rwa [cfg'], ?_, by rw [eep']; rfl⟩, by rw [eep']; rfl⟩, cfg', eepMem'.trans eepMem⟩
  unfold State.onEeprom State.selected
  rw [cfg', te₂, te₁, re₂, re₁, on, accel₂, accel₁]
  exact ⟨te, re, beq_self_eq_true _, accel, nofun⟩

end

/-! ### The round trip -/

/-- Four bytes written from an address with room in its page. -/
theorem written_four {s t : State} {a : Nat} (h : s.eepAt .writeData a 0) (room : a % 128 ≤ 124) {d₀ d₁ d₂ d₃ : Byte}
    (ht : t = s.ssuSendAll [d₀, d₁, d₂, d₃]) :
    t.eepReady ∧ t.cfg = s.cfg ∧ t.eepMem.read eepErased a = d₀ ∧ t.eepMem.read eepErased (a + 1) = d₁
      ∧ t.eepMem.read eepErased (a + 2) = d₂ ∧ t.eepMem.read eepErased (a + 3) = d₃ := by
  obtain ⟨at₁, cfg₁, mem₁⟩ := h.write (by omega) (d := d₀) rfl
  obtain ⟨at₂, cfg₂, mem₂⟩ := at₁.write (by omega) (d := d₁) rfl
  obtain ⟨at₃, cfg₃, mem₃⟩ := at₂.write (by omega) (d := d₂) rfl
  obtain ⟨at₄, cfg₄, mem₄⟩ := at₃.write (by omega) (d := d₃) rfl
  obtain rfl : t = (((s.ssuSend d₀).ssuSend d₁).ssuSend d₂).ssuSend d₃ := ht
  refine ⟨at₄.1, cfg₄.trans (cfg₃.trans (cfg₂.trans cfg₁)), ?_⟩
  simp only [mem₄, mem₃, mem₂, mem₁]
  simp

/-- Four bytes read from an address on. -/
theorem read_four {s : State} {a : Nat} (h : s.eepAt .readData a 0) (room : a + 3 < 65536) (x : Byte) :
    (s.ssuSendAll [x]).raw s.cfg.io.ssuRdr = s.eepMem.read eepErased a
      ∧ (s.ssuSendAll [x, x]).raw s.cfg.io.ssuRdr = s.eepMem.read eepErased (a + 1)
      ∧ (s.ssuSendAll [x, x, x]).raw s.cfg.io.ssuRdr = s.eepMem.read eepErased (a + 2)
      ∧ (s.ssuSendAll [x, x, x, x]).raw s.cfg.io.ssuRdr = s.eepMem.read eepErased (a + 3) := by
  obtain ⟨at₁, cfg₁, mem₁, got₁⟩ := h.read (by omega) (x := x) rfl
  obtain ⟨at₂, cfg₂, mem₂, got₂⟩ := at₁.read (by omega) (x := x) rfl
  obtain ⟨at₃, cfg₃, mem₃, got₃⟩ := at₂.read (by omega) (x := x) rfl
  obtain ⟨-, -, -, got₄⟩ := at₃.read (by omega) (x := x) rfl
  rw [cfg₁, mem₁] at got₂
  rw [cfg₂, cfg₁, mem₂, mem₁] at got₃
  rw [cfg₃, cfg₂, cfg₁, mem₃, mem₂, mem₁] at got₄
  exact ⟨got₁, got₂, got₃, got₄⟩

/-- Settles O54: write-enable, the write, the select given again, the read. -/
theorem eepromRoundTrip : Obligations.EepromRoundTrip := by
  intro s ah al d₀ d₁ d₂ d₃ x hv on waits hp page w hw
  have size : ah.toNat < 256 := ah.isLt
  have size' : al.toNat < 256 := al.isLt
  obtain ⟨enabled, cfg₁⟩ := State.eepWaits.writeEnable ⟨⟨hv, on, hp⟩, waits⟩ rfl
  obtain ⟨addressed, cfg₂, -⟩ := enabled.address .write (cmd := s.cfg.eepCmdWrite) (ah := ah) (al := al)
    (eepCommand_write (by rwa [cfg₁]) (by rw [cfg₁])) rfl
  obtain ⟨m, hm⟩ : ∃ m, m = s.ssuSendAll ([s.cfg.eepCmdWren] ++ [s.cfg.eepCmdWrite, ah, al] ++ [d₀, d₁, d₂, d₃]) :=
    ⟨_, rfl⟩
  have hw' : w = m.eepReselect.ssuSendAll [s.cfg.eepCmdRead, ah, al] := by
    rw [hm]
    exact hw
  rw [State.ssuSendAll_append, State.ssuSendAll_append] at hm
  obtain ⟨ready, cfg₃, got₀, got₁, got₂, got₃⟩ := written_four addressed (by omega) hm
  obtain ⟨waits', cfg₄, kept⟩ := ready.reselect rfl
  have cfg : m.eepReselect.cfg = s.cfg := cfg₄.trans (cfg₃.trans (cfg₂.trans cfg₁))
  obtain ⟨reading, cfg₅, mem⟩ := waits'.address .read (eepCommand_read (by rw [cfg])) hw'
  obtain ⟨read₀, read₁, read₂, read₃⟩ := read_four reading (by omega) x
  rw [cfg₅, cfg] at read₀ read₁ read₂ read₃
  rw [read₀, read₁, read₂, read₃, mem, kept]
  exact ⟨got₀, got₁, got₂, got₃⟩

end Sys2Proof.Machine
end
